-- ==== Sys2Proof/Word.lean ====
section
/-! DEFINITION. The widths of the clock CORE's values (spec 00 R9, R10; 30 R64, R66-R69). Every value is unsigned
and bit 0 is the least significant. -/

namespace Sys2Proof

/-- A time field: `sec`, `min` or `hr`, 6 bits (00 R9). -/
abbrev Field6 := BitVec 6

/-- A digit code `DIG`, 4 bits (30 R66). -/
abbrev Digit := BitVec 4

/-- A digit position code `IDX`, 3 bits (30 R67). -/
abbrev Index := BitVec 3

/-- A segment pattern `SEG`: dp g f e d c b a, bit 7 down to bit 0 (30 R68). -/
abbrev Segments := BitVec 8

/-- A chip-select pattern `CS`: bit i belongs to digit position i (30 R69). -/
abbrev Select := BitVec 6

/-- The byte that a code of any format is held in. -/
abbrev Byte := BitVec 8

end Sys2Proof
end

