-- ==== Sys2Proof/Config.lean ====
section
/-! DEFINITION. The build-time parameters of the clock CORE (spec 00 R8) and the model's free values. -/

namespace Sys2Proof

/-- The parameters the model takes as arguments (00 R8): fixed when the logic is built, never written (10 R27). -/
structure Params where
  /-- `TICK_PERIOD`, P: cycles per tick. -/
  tickPeriod : Nat
  /-- `HOUR_MOD`, H: hours run over 0 .. H-1. -/
  hourMod : Nat
  /-- `REFRESH_DIV`, N: cycles per digit slot. -/
  refreshDiv : Nat
  /-- `BTN_ACTIVE_LOW`: a raw level 0 means pressed. -/
  btnActiveLow : Bool
  /-- `CS_ACTIVE_LOW`: the chip-select lines are active-low. -/
  csActiveLow : Bool
  /-- `SEG_ACTIVE_LOW`: the segment lines are active-low. -/
  segActiveLow : Bool
  deriving DecidableEq, Repr

namespace Config

/-- F - 1, where F is `SYS_CLK_HZ`: OPEN in the spec (92 D26), any natural number. Log 4. -/
opaque sysClkHzLess1 : Nat

/-- R - 1, where R is `REFRESH_HZ`: OPEN in the spec (92 D26), any natural number. Log 4. -/
opaque refreshHzLess1 : Nat

/-- FREE VALUE: the `CYC` word the environment drives where no word is queued, the n-th such word (00 R16, 46 R152,
92 D19). Log 7. -/
opaque freeCyc : Nat → BitVec 3

/-- `SYS_CLK_HZ`, F, an integer of at least 1 (00 R8). -/
def sysClkHz : Nat := sysClkHzLess1 + 1

/-- `TICK_HZ`, f (00 R8). -/
def tickHz : Nat := 1

/-- `REFRESH_HZ`, R, an integer of at least 1 (00 R8). -/
def refreshHz : Nat := refreshHzLess1 + 1

/-- `round_half_up(a, b)` of 00 R13. -/
def roundHalfUp (a b : Nat) : Nat := (2 * a + b) / (2 * b)

/-- `TICK_PERIOD` = max(1, round_half_up(F, f)) (41 R83). The maximum with 1 is written as a predecessor's successor,
so that the kernel sees that it is not 0; `Laws.tickPeriod_eq_max` says it is the maximum. -/
def tickPeriod : Nat := (roundHalfUp sysClkHz tickHz - 1) + 1

/-- `REFRESH_DIV` = max(1, F / (6 R)), rounded down (45 R134), written as `tickPeriod` is. -/
def refreshDiv : Nat := (sysClkHz / (6 * refreshHz) - 1) + 1

/-- The parameters of this hardware (00 R8): H = 24, every polarity active-high, P and N from the open F and R. -/
def params : Params where
  tickPeriod := tickPeriod
  hourMod := 24
  refreshDiv := refreshDiv
  btnActiveLow := false
  csActiveLow := false
  segActiveLow := false

end Config

end Sys2Proof
end

