-- ==== Sys2Proof/Syntax.lean ====
section
/-! DEFINITION. The rows of spec/opcode_table.json as one inductive, and the four code formats they are written in
(spec 30 R60). -/

namespace Sys2Proof

/-- The code formats of 30 R60. -/
inductive Format where
  /-- The per-cycle input word {rst, btn_hr_raw, btn_min_raw} (30 R62). -/
  | cyc
  /-- The Time Core's event word {inc_hours, inc_minutes, tick} (30 R64). -/
  | evt
  /-- The digit code `cur_digit` (30 R66). -/
  | dig
  /-- The digit position code `digit_idx` (30 R67). -/
  | idx
  deriving DecidableEq, Repr

/-- The width of a format's codes in bits (30 R60). -/
def Format.width : Format → Nat
  | .cyc => 3
  | .evt => 3
  | .dig => 4
  | .idx => 3

/-- A code in one of the four formats, right-aligned in a byte. The formats share their code values, so a code says
which format it is of (log 1). -/
structure CodeWord where
  fmt  : Format
  bits : Byte
  deriving DecidableEq, Repr

/-- What one step is asked to run. The environment drives the three lines of `CYC` and nothing else (10 R31), so no
request carries an event word: nothing outside the block can drive `EVT` (30 R65). The two decoder requests evaluate one
decoder on a code of its own, "if a model evaluates the decoders on one of them anyway" (30 R66, R67); no cycle of the
block passes in them (log 2). -/
inductive Request where
  /-- The word {rst, btn_hr_raw, btn_min_raw} that the next edge samples (30 R62). -/
  | cyc (w : BitVec 3)
  /-- The segment decoder alone, on a digit code (30 R66). -/
  | dig (d : Digit)
  /-- The chip-select and digit decoders alone, on a position code (30 R67). -/
  | idx (i : Index)
  deriving DecidableEq, Repr

/-- The code word of a request. -/
def Request.code : Request → CodeWord
  | .cyc w => ⟨.cyc, w.setWidth 8⟩
  | .dig d => ⟨.dig, d.setWidth 8⟩
  | .idx i => ⟨.idx, i.setWidth 8⟩

/-- One constructor per row of the opcode table. `h` and `m` are the raw levels of button H's and button M's line in
the cycle (30 R62); every other row has no operand field. Every term is well-formed: its operands are single bits. -/
inductive Instr where
  | reset (h m : Bool)
  | run (h m : Bool)
  | coreIdle
  | coreT
  | coreM
  | coreTM
  | coreH
  | coreTH
  | coreMH
  | coreTMH
  | seg0
  | seg1
  | seg2
  | seg3
  | seg4
  | seg5
  | seg6
  | seg7
  | seg8
  | seg9
  | segRsv10
  | segRsv11
  | segRsv12
  | segRsv13
  | segRsv14
  | segRsv15
  | cs0
  | cs1
  | cs2
  | cs3
  | cs4
  | cs5
  | csRsv6
  | csRsv7
  deriving DecidableEq, Repr

end Sys2Proof
end

