-- ==== Sys2Proof/WellFormed.lean ====
section
/-! DEFINITION. The checks on data the model is given: a code word fits its format; the parameters lie in the ranges
of spec 00 R8. An `Instr` needs no check: its operands are single bits, and every value of them is legal (30 R62). -/

namespace Sys2Proof

/-- The code has no bit above its format's width (30 R62, R64, R66, R67). -/
def CodeWord.wf (c : CodeWord) : Bool :=
  decide (c.bits.toNat < 2 ^ c.fmt.width)

/-- The admitted ranges of 00 R8: P ≥ 1, 2 ≤ H ≤ 60, N ≥ 1. -/
def Params.wf (p : Params) : Bool :=
  p.tickPeriod != 0 && decide (2 ≤ p.hourMod) && decide (p.hourMod ≤ 60) && p.refreshDiv != 0

end Sys2Proof
end

