-- ==== Sys2Proof/Decode.lean ====
section
/-! DEFINITION. From codes to instructions and back (spec 30 R61-R67 and the opcode table). -/

namespace Sys2Proof

/-- Why the decoder rejects a code word. -/
inductive DecodeError where
  /-- The byte has a bit set above the format's width, so it is no code of that format. -/
  | bitsAboveFormat (fmt : Format) (bits : Byte)
  deriving DecidableEq, Repr

/-- 30 R62: bit 2 is `rst`, bit 1 `btn_hr_raw`, bit 0 `btn_min_raw`. All eight values are legal. -/
def cycInstr (w : BitVec 3) : Instr :=
  if w.getLsbD 2 then .reset (w.getLsbD 1) (w.getLsbD 0) else .run (w.getLsbD 1) (w.getLsbD 0)

/-- 30 R64: the event word {inc_hours, inc_minutes, tick} and its row. -/
def evtInstr (w : BitVec 3) : Instr :=
  match w.getLsbD 2, w.getLsbD 1, w.getLsbD 0 with
  | false, false, false => .coreIdle
  | false, false, true  => .coreT
  | false, true,  false => .coreM
  | false, true,  true  => .coreTM
  | true,  false, false => .coreH
  | true,  false, true  => .coreTH
  | true,  true,  false => .coreMH
  | true,  true,  true  => .coreTMH

/-- 30 R66: the digit code and its row. -/
def digInstr (w : Digit) : Instr :=
  match w.getLsbD 3, w.getLsbD 2, w.getLsbD 1, w.getLsbD 0 with
  | false, false, false, false => .seg0
  | false, false, false, true  => .seg1
  | false, false, true,  false => .seg2
  | false, false, true,  true  => .seg3
  | false, true,  false, false => .seg4
  | false, true,  false, true  => .seg5
  | false, true,  true,  false => .seg6
  | false, true,  true,  true  => .seg7
  | true,  false, false, false => .seg8
  | true,  false, false, true  => .seg9
  | true,  false, true,  false => .segRsv10
  | true,  false, true,  true  => .segRsv11
  | true,  true,  false, false => .segRsv12
  | true,  true,  false, true  => .segRsv13
  | true,  true,  true,  false => .segRsv14
  | true,  true,  true,  true  => .segRsv15

/-- 30 R67: the digit position code and its row. -/
def idxInstr (w : Index) : Instr :=
  match w.getLsbD 2, w.getLsbD 1, w.getLsbD 0 with
  | false, false, false => .cs0
  | false, false, true  => .cs1
  | false, true,  false => .cs2
  | false, true,  true  => .cs3
  | true,  false, false => .cs4
  | true,  false, true  => .cs5
  | true,  true,  false => .csRsv6
  | true,  true,  true  => .csRsv7

/-- The decoder, total on every byte in every format. -/
def decode (c : CodeWord) : Except DecodeError Instr :=
  if c.wf then
    match c.fmt with
    | .cyc => .ok (cycInstr (c.bits.setWidth 3))
    | .evt => .ok (evtInstr (c.bits.setWidth 3))
    | .dig => .ok (digInstr (c.bits.setWidth 4))
    | .idx => .ok (idxInstr (c.bits.setWidth 3))
  else
    .error (.bitsAboveFormat c.fmt c.bits)

/-- The row a request runs: what the decoder reads from its code (`decode_request`). -/
def requestInstr : Request → Instr
  | .cyc w => cycInstr w
  | .dig d => digInstr d
  | .idx i => idxInstr i

/-- The request that a code word makes, where it makes one: an event word makes none (30 R65). -/
def codeRequest (c : CodeWord) : Option Request :=
  if c.wf then
    match c.fmt with
    | .cyc => some (.cyc (c.bits.setWidth 3))
    | .evt => none
    | .dig => some (.dig (c.bits.setWidth 4))
    | .idx => some (.idx (c.bits.setWidth 3))
  else
    none

/-- The format a row's code is read in when nothing names it: `CYC` for the codes of 3 bits, the only word the block
takes at its boundary (30 R61), and `DIG` for the codes that only a 4-bit format has. Log 1. -/
def untaggedFormat (w : Nat) : Format :=
  if w < 8 then .cyc else .dig

/-- The code word that a table word of at most one byte stands for. No row of the table is wider. -/
def tableCode (w : Nat) : Option CodeWord :=
  if w < 256 then some ⟨untaggedFormat w, BitVec.ofNat 8 w⟩ else none

/-- What the decoder reads from a table word of `nbits` bits. The formats are one byte or less, so `nbits` adds
nothing: a bit above them is part of no code. -/
def decodeTableWord (_nbits w : Nat) : Option Instr :=
  match tableCode w with
  | some c =>
    match decode c with
    | .ok i => some i
    | .error _ => none
  | none => none

/-- The `CYC` word {rst, btn_hr_raw, btn_min_raw} (30 R62). -/
def cycLines (rst h m : Bool) : BitVec 3 :=
  BitVec.ofNat 3 (4 * rst.toNat + 2 * h.toNat + m.toNat)

/-- The byte of a `CYC` word. -/
def cycBits (rst h m : Bool) : Byte :=
  (cycLines rst h m).setWidth 8

/-- The code word of an instruction, from the `encoding` column of the opcode table. -/
def encode : Instr → CodeWord
  | .reset h m => ⟨.cyc, cycBits true h m⟩
  | .run h m   => ⟨.cyc, cycBits false h m⟩
  | .coreIdle  => ⟨.evt, 0b000⟩
  | .coreT     => ⟨.evt, 0b001⟩
  | .coreM     => ⟨.evt, 0b010⟩
  | .coreTM    => ⟨.evt, 0b011⟩
  | .coreH     => ⟨.evt, 0b100⟩
  | .coreTH    => ⟨.evt, 0b101⟩
  | .coreMH    => ⟨.evt, 0b110⟩
  | .coreTMH   => ⟨.evt, 0b111⟩
  | .seg0      => ⟨.dig, 0b0000⟩
  | .seg1      => ⟨.dig, 0b0001⟩
  | .seg2      => ⟨.dig, 0b0010⟩
  | .seg3      => ⟨.dig, 0b0011⟩
  | .seg4      => ⟨.dig, 0b0100⟩
  | .seg5      => ⟨.dig, 0b0101⟩
  | .seg6      => ⟨.dig, 0b0110⟩
  | .seg7      => ⟨.dig, 0b0111⟩
  | .seg8      => ⟨.dig, 0b1000⟩
  | .seg9      => ⟨.dig, 0b1001⟩
  | .segRsv10  => ⟨.dig, 0b1010⟩
  | .segRsv11  => ⟨.dig, 0b1011⟩
  | .segRsv12  => ⟨.dig, 0b1100⟩
  | .segRsv13  => ⟨.dig, 0b1101⟩
  | .segRsv14  => ⟨.dig, 0b1110⟩
  | .segRsv15  => ⟨.dig, 0b1111⟩
  | .cs0       => ⟨.idx, 0b000⟩
  | .cs1       => ⟨.idx, 0b001⟩
  | .cs2       => ⟨.idx, 0b010⟩
  | .cs3       => ⟨.idx, 0b011⟩
  | .cs4       => ⟨.idx, 0b100⟩
  | .cs5       => ⟨.idx, 0b101⟩
  | .csRsv6    => ⟨.idx, 0b110⟩
  | .csRsv7    => ⟨.idx, 0b111⟩

end Sys2Proof
end

