-- ==== Sys2Proof/Machine/State.lean ====
section
/-! DEFINITION. The state of the clock CORE (spec 10 R20), the build-time parameters it runs with (00 R8), the record of
its wires (10 R36), and the inputs to come. -/

namespace Sys2Proof.Machine

/-- The three flops of one Button Edge Detector (10 R23). -/
structure EdgeDetector where
  /-- First synchronizer stage. -/
  sync1 : Bool
  /-- Second synchronizer stage, "synchronized_current". -/
  sync2 : Bool
  /-- "delayed_previous". -/
  prev  : Bool
  deriving DecidableEq, Repr

/-- The six BCD digits (44 R120), which are `values[0..5]` in this order (45 R136). -/
structure Digits where
  secOnes : Digit
  secTens : Digit
  minOnes : Digit
  minTens : Digit
  hrOnes  : Digit
  hrTens  : Digit
  deriving DecidableEq, Repr

/-- What the combinational wires of 10 R36 and the two output ports of 10 R32 carried in a cycle. -/
structure Wires where
  tick       : Bool
  incMinutes : Bool
  incHours   : Bool
  cS         : Bool
  cM         : Bool
  sNext      : Field6
  mNext      : Field6
  hNext      : Field6
  values     : Digits
  refAdv     : Bool
  curDigit   : Digit
  segLogic   : Segments
  csLogic    : Select
  segOut     : Segments
  csOut      : Select
  deriving DecidableEq, Repr

/-- The twelve registers of 10 R20 (two of them bundles of three flops), and beside them, not registers: the build-time
parameters, the record of the last cycle's wires, the requests to come and the count of free words drawn. -/
structure State where
  /-- `tick_cnt`. -/
  tickCnt  : Nat
  /-- `m_sync1`, `m_sync2`, `m_prev`. -/
  btnM     : EdgeDetector
  /-- `h_sync1`, `h_sync2`, `h_prev`. -/
  btnH     : EdgeDetector
  /-- `sec`. -/
  sec      : Field6
  /-- `min`. -/
  min      : Field6
  /-- `hr`. -/
  hr       : Field6
  /-- `ref_cnt`. -/
  refCnt   : Nat
  /-- `digit_idx`. -/
  digitIdx : Index
  /-- The build-time parameters (00 R8): no instruction writes them. Log 3. -/
  params   : Params
  /-- The wires and ports of the last cycle (10 R36): nothing in the block reads them. Log 5. -/
  wires    : Wires
  /-- What the steps to come are asked to run, the first by the next step: the `CYC` words the environment will drive
  (30 R72), and decoders to evaluate alone. Log 2, log 7. -/
  inputs   : List Request
  /-- How many free `CYC` words have been drawn. Log 7. -/
  draws    : Nat
  deriving DecidableEq, Repr

/-- No step of this block faults: it raises no exception and has no stuck behaviour (60 R160, 93). -/
inductive Fault where
  deriving DecidableEq, Repr

/-- Why a step gives no successor. -/
inductive Refusal where
  /-- An instruction of the opcode table without a meaning in this model: raised by no arm. Safe. -/
  | notModelled (mnemonic : String)
  /-- Raised by RUN in a state outside the ranges of 10 R33, and by the Time Core rows when a time field is outside
  them: "refuse" in spec 93 row 17. Safe: no state after a reset is refused. -/
  | outsideInvariant
  /-- Raised by RUN and the Time Core rows when a parameter is outside the admitted range of 00 R8. Safe: no such
  block is built. -/
  | paramsNotAdmitted
  deriving DecidableEq, Repr

/-- The wires of the zero state (70 R175, 46 R151) under the parameters of this hardware: position 0 selected, showing
0, both buses active-high; `Laws.reset_wires` says that the wire functions give these values. -/
def Wires.reset : Wires where
  tick       := decide (Config.tickPeriod = 1)
  incMinutes := false
  incHours   := false
  cS         := false
  cM         := false
  sNext      := if Config.tickPeriod = 1 then 1 else 0
  mNext      := 0
  hNext      := 0
  values     := ⟨0, 0, 0, 0, 0, 0⟩
  refAdv     := decide (Config.refreshDiv = 1)
  curDigit   := 0
  segLogic   := 0x3F
  csLogic    := 0x01
  segOut     := 0x3F
  csOut      := 0x01

/-- The machine right after reset: the zero state of 70 R175, under the parameters of this hardware, with no request
queued and no free word drawn. -/
def State.reset : State where
  tickCnt  := 0
  btnM     := ⟨false, false, false⟩
  btnH     := ⟨false, false, false⟩
  sec      := 0
  min      := 0
  hr       := 0
  refCnt   := 0
  digitIdx := 0
  params   := Config.params
  wires    := Wires.reset
  inputs   := []
  draws    := 0

end Sys2Proof.Machine
end

