-- ==== Sys2Proof/Machine/Ops.lean ====
section
/-! DEFINITION. The shared operations: the helpers of spec 00 R13, the ranges of 10 R33, and the register steps of the
component files. The block takes no exception and returns from none (60 R160, R164): RESET is its only recovery, and
`zeroState` is that operation. -/

namespace Sys2Proof.Machine

/-- `wrap_inc(x, d, M)` of 00 R13: the new value and the carry. -/
def wrapInc (x d M : Nat) : Nat × Bool :=
  ((x + d) % M, decide (M ≤ x + d))

/-- `onehot6(i)` of 00 R13. -/
def onehot6 (i : Index) : Select :=
  if i.toNat < 6 then 1#6 <<< i.toNat else 0

/-- `polar(v, active_low, W)` of 00 R13. -/
def polar {W : Nat} (v : BitVec W) (activeLow : Bool) : BitVec W :=
  if activeLow then v ^^^ BitVec.allOnes W else v

/-- The time fields lie in the ranges of 10 R33. -/
def State.timeInRange (s : State) : Bool :=
  decide (s.sec.toNat < 60) && decide (s.min.toNat < 60) && decide (s.hr.toNat < s.params.hourMod)

/-- Every register lies in its range of 10 R33. The two counters' ranges are written as "not at or above the period", so
that the kernel decides them at 0 for a period it cannot evaluate. -/
def State.inRange (s : State) : Bool :=
  !(decide (s.params.tickPeriod ≤ s.tickCnt)) && s.timeInRange
    && !(decide (s.params.refreshDiv ≤ s.refCnt)) && decide (s.digitIdx.toNat < 6)

/-- Every register at 0: the zero state Z of 70 R175. The parameters and what is not a register stay. -/
def zeroState (s : State) : State :=
  { s with
    tickCnt  := 0
    btnM     := ⟨false, false, false⟩
    btnH     := ⟨false, false, false⟩
    sec      := 0
    min      := 0
    hr       := 0
    refCnt   := 0
    digitIdx := 0 }

/-- A divider's next count: 0 after the last value, else one more (41 R81, 45 R131). -/
def dividerNext (last : Bool) (cnt : Nat) : Nat :=
  if last then 0 else cnt + 1

/-- The EDGE step (42 R91): the three writes read the old values. -/
def edgeNext (d : EdgeDetector) (pressed : Bool) : EdgeDetector where
  sync1 := pressed
  sync2 := d.sync1
  prev  := d.sync2

/-- The INDEX step (45 R132). -/
def indexNext (adv : Bool) (i : Index) : Index :=
  if adv then (if i = 5 then 0 else i + 1) else i

end Sys2Proof.Machine
end

