-- ==== Sys2Proof/Machine/Flags.lean ====
section
/-! DEFINITION. The one-cycle condition signals of spec 10 R29 and the Time Core's next values (43 R100), as functions of
the registers. The block stores no flag. -/

namespace Sys2Proof.Machine

/-- `tick` (41 R80). -/
def tickWire (s : State) : Bool :=
  decide (s.tickCnt = s.params.tickPeriod - 1)

/-- The pulse of one edge detector (42 R92). -/
def pulse (d : EdgeDetector) : Bool :=
  d.sync2 && !d.prev

/-- `ref_adv` (45 R130). -/
def refAdvWire (s : State) : Bool :=
  decide (s.refCnt = s.params.refreshDiv - 1)

/-- (`s_next`, `c_s`) of 43 R100. -/
def secNext (s : State) (t : Bool) : Nat × Bool :=
  wrapInc s.sec.toNat t.toNat 60

/-- (`m_next`, `c_m`) of 43 R100. -/
def minNext (s : State) (t m : Bool) : Nat × Bool :=
  wrapInc s.min.toNat ((secNext s t).2.toNat + m.toNat) 60

/-- `h_next` of 43 R100. -/
def hrNext (s : State) (t m h : Bool) : Nat :=
  (wrapInc s.hr.toNat ((minNext s t m).2.toNat + h.toNat) s.params.hourMod).1

end Sys2Proof.Machine
end

