-- ==== Sys2Proof/Machine/Operands.lean ====
section
/-! DEFINITION. The operands and the combinational functions that read them: raw levels, the event word, BCD digits, the
display's decoders and outputs, and all wires of a cycle together (spec 10 R36, 20 R51). -/

namespace Sys2Proof.Machine

/-- The pressed level of a raw line (42 R90, 30 R63). -/
def pressedLevel (s : State) (raw : Bool) : Bool :=
  raw ^^ s.params.btnActiveLow

/-- The word {a, b, c} of three wires. -/
def word3 (a b c : Bool) : BitVec 3 :=
  BitVec.ofNat 3 (4 * a.toNat + 2 * b.toNat + c.toNat)

/-- The Time Core's event word {inc_hours, inc_minutes, tick} (30 R64). -/
def evtWord (s : State) : BitVec 3 :=
  word3 (pulse s.btnH) (pulse s.btnM) (tickWire s)

/-- The tens digit of a BCD converter (44 R121). -/
def bcdTens (v : Field6) : Digit :=
  BitVec.ofNat 4 (v.toNat / 10)

/-- The ones digit of a BCD converter (44 R121). -/
def bcdOnes (v : Field6) : Digit :=
  BitVec.ofNat 4 (v.toNat % 10)

/-- The outputs of the three BCD converters (44 R120), reading the registers. -/
def bcdDigits (s : State) : Digits where
  secOnes := bcdOnes s.sec
  secTens := bcdTens s.sec
  minOnes := bcdOnes s.min
  minTens := bcdTens s.min
  hrOnes  := bcdOnes s.hr
  hrTens  := bcdTens s.hr

/-- `values[i]` (45 R136), and the code 15 for the reserved positions (45 R137). -/
def digitAt (d : Digits) (i : Index) : Digit :=
  match i.getLsbD 2, i.getLsbD 1, i.getLsbD 0 with
  | false, false, false => d.secOnes
  | false, false, true  => d.secTens
  | false, true,  false => d.minOnes
  | false, true,  true  => d.minTens
  | true,  false, false => d.hrOnes
  | true,  false, true  => d.hrTens
  | true,  true,  _     => 15

/-- `cur_digit` (45 R137). -/
def curDigitWire (s : State) : Digit :=
  digitAt (bcdDigits s) s.digitIdx

/-- `SEGTAB` (45 R138): the conventional glyphs for 0..9, blank for 10..15. -/
def segTab (d : Digit) : Segments :=
  match d.getLsbD 3, d.getLsbD 2, d.getLsbD 1, d.getLsbD 0 with
  | false, false, false, false => 0x3F
  | false, false, false, true  => 0x06
  | false, false, true,  false => 0x5B
  | false, false, true,  true  => 0x4F
  | false, true,  false, false => 0x66
  | false, true,  false, true  => 0x6D
  | false, true,  true,  false => 0x7D
  | false, true,  true,  true  => 0x07
  | true,  false, false, false => 0x7F
  | true,  false, false, true  => 0x6F
  | true,  false, true,  _     => 0x00
  | true,  true,  _,     _     => 0x00

/-- `seg_out` for a pattern (45 R139). -/
def segPort (s : State) (logic : Segments) : Segments :=
  polar logic s.params.segActiveLow

/-- `cs_out` for a pattern (45 R140). -/
def csPort (s : State) (logic : Select) : Select :=
  polar logic s.params.csActiveLow

/-- `Out(S)` = (`cs_out`, `seg_out`) of 45 R141. -/
def outputs (s : State) : Select × Segments :=
  (csPort s (onehot6 s.digitIdx), segPort s (segTab (curDigitWire s)))

/-- Every wire of 10 R36 that depends on the registers, in a cycle that starts in `s`. -/
def cycleWires (s : State) : Wires :=
  let t := tickWire s
  let m := pulse s.btnM
  let h := pulse s.btnH
  { tick       := t
    incMinutes := m
    incHours   := h
    cS         := (secNext s t).2
    cM         := (minNext s t m).2
    sNext      := BitVec.ofNat 6 (secNext s t).1
    mNext      := BitVec.ofNat 6 (minNext s t m).1
    hNext      := BitVec.ofNat 6 (hrNext s t m h)
    values     := bcdDigits s
    refAdv     := refAdvWire s
    curDigit   := curDigitWire s
    segLogic   := segTab (curDigitWire s)
    csLogic    := onehot6 s.digitIdx
    segOut     := (outputs s).2
    csOut      := (outputs s).1 }

end Sys2Proof.Machine
end

