-- ==== Sys2Proof/Machine/ChipSelect.lean ====
section
/-! DEFINITION. The eight rows of the chip-select decoder (spec 45 R137, R140; 30 R67): each drives its line, through the
board polarity, on the chip-select bus, selects a digit, and shows it on the segment bus (45 R138, R139). They write no
register (45 R141); what they drive is recorded in the wires (log 2, log 5). -/

namespace Sys2Proof.Machine

/-- A chip-select row: the line pattern `logic` (45 R140), and the digit code `d` selected with it, which the segment
table decodes in the same cycle (45 R137-R139): the code 15 shows blank. -/
def driveSelect (s : State) (logic : Select) (d : Digit) : Host.Outcome State Fault Refusal :=
  .next { s with wires :=
    { s.wires with values := bcdDigits s, curDigit := d, segLogic := segTab d, csLogic := logic,
                   segOut := segPort s (segTab d), csOut := csPort s logic } }

/-- CS_0 (45 R140, R137): shows `values[0]`. -/
def execCs0 (s : State) : Host.Outcome State Fault Refusal :=
  driveSelect s 0x01 (bcdOnes s.sec)

/-- CS_1 (45 R140, R137): shows `values[1]`. -/
def execCs1 (s : State) : Host.Outcome State Fault Refusal :=
  driveSelect s 0x02 (bcdTens s.sec)

/-- CS_2 (45 R140, R137): shows `values[2]`. -/
def execCs2 (s : State) : Host.Outcome State Fault Refusal :=
  driveSelect s 0x04 (bcdOnes s.min)

/-- CS_3 (45 R140, R137): shows `values[3]`. -/
def execCs3 (s : State) : Host.Outcome State Fault Refusal :=
  driveSelect s 0x08 (bcdTens s.min)

/-- CS_4 (45 R140, R137): shows `values[4]`. -/
def execCs4 (s : State) : Host.Outcome State Fault Refusal :=
  driveSelect s 0x10 (bcdOnes s.hr)

/-- CS_5 (45 R140, R137): shows `values[5]`. -/
def execCs5 (s : State) : Host.Outcome State Fault Refusal :=
  driveSelect s 0x20 (bcdTens s.hr)

/-- CS_RSV_6 (45 R140, R137): reserved: no line, digit code 15, blank. -/
def execCsRsv6 (s : State) : Host.Outcome State Fault Refusal :=
  driveSelect s 0x00 15

/-- CS_RSV_7 (45 R140, R137): reserved: no line, digit code 15, blank. -/
def execCsRsv7 (s : State) : Host.Outcome State Fault Refusal :=
  driveSelect s 0x00 15

end Sys2Proof.Machine
end

