-- ==== Sys2Proof/Machine/Cycle.lean ====
section
/-! DEFINITION. The two whole cycles of the block: RESET and RUN (spec 46 R150, R151). -/

namespace Sys2Proof.Machine

/-- RESET (46 R151): the registers read as the zero state for the whole cycle and hold it after the edge; H and M are
ignored; the wires of the cycle are the zero state's. Defined from every state (10 R33). -/
def execReset (_h _m : Bool) (s : State) : Host.Outcome State Fault Refusal :=
  .next { zeroState s with wires := cycleWires (zeroState s) }

/-- The registers after a RUN cycle (46 R150), all from the values at its start, and the wires of the cycle. -/
def runStep (h m : Bool) (s : State) : State :=
  let w := cycleWires s
  { s with
    tickCnt  := dividerNext w.tick s.tickCnt
    btnM     := edgeNext s.btnM (pressedLevel s m)
    btnH     := edgeNext s.btnH (pressedLevel s h)
    sec      := w.sNext
    min      := w.mNext
    hr       := w.hNext
    refCnt   := dividerNext w.refAdv s.refCnt
    digitIdx := indexNext w.refAdv s.digitIdx
    wires    := w }

/-- RUN (46 R150), refused outside the ranges of 10 R33 (92 D20). -/
def execRun (h m : Bool) (s : State) : Host.Outcome State Fault Refusal :=
  if !s.params.wf then .refused .paramsNotAdmitted
  else if !s.inRange then .refused .outsideInvariant
  else .next (runStep h m s)

end Sys2Proof.Machine
end

