-- ==== Sys2Proof/Machine/Segment.lean ====
section
/-! DEFINITION. The sixteen rows of the segment decoder (spec 45 R138, R139; 30 R66): each drives its pattern, through
the board polarity, on the segment bus. They write no register (45 R141); what they drive is recorded in the wires
(log 2, log 5). -/

namespace Sys2Proof.Machine

/-- A segment decoder row: digit code `d` decoded to the pattern `logic`. DESIGN CHOICE (log 21): alone, the row leaves
the chip-select bus and the six digits as the record has them. -/
def driveSegments (s : State) (d : Digit) (logic : Segments) : Host.Outcome State Fault Refusal :=
  .next { s with wires := { s.wires with curDigit := d, segLogic := logic, segOut := segPort s logic } }

/-- SEG_0 (45 R138). -/
def execSeg0 (s : State) : Host.Outcome State Fault Refusal :=
  driveSegments s 0 0x3F

/-- SEG_1 (45 R138). -/
def execSeg1 (s : State) : Host.Outcome State Fault Refusal :=
  driveSegments s 1 0x06

/-- SEG_2 (45 R138). -/
def execSeg2 (s : State) : Host.Outcome State Fault Refusal :=
  driveSegments s 2 0x5B

/-- SEG_3 (45 R138). -/
def execSeg3 (s : State) : Host.Outcome State Fault Refusal :=
  driveSegments s 3 0x4F

/-- SEG_4 (45 R138). -/
def execSeg4 (s : State) : Host.Outcome State Fault Refusal :=
  driveSegments s 4 0x66

/-- SEG_5 (45 R138). -/
def execSeg5 (s : State) : Host.Outcome State Fault Refusal :=
  driveSegments s 5 0x6D

/-- SEG_6 (45 R138). -/
def execSeg6 (s : State) : Host.Outcome State Fault Refusal :=
  driveSegments s 6 0x7D

/-- SEG_7 (45 R138). -/
def execSeg7 (s : State) : Host.Outcome State Fault Refusal :=
  driveSegments s 7 0x07

/-- SEG_8 (45 R138). -/
def execSeg8 (s : State) : Host.Outcome State Fault Refusal :=
  driveSegments s 8 0x7F

/-- SEG_9 (45 R138). -/
def execSeg9 (s : State) : Host.Outcome State Fault Refusal :=
  driveSegments s 9 0x6F

/-- SEG_RSV_10 (45 R138, reserved, blank). -/
def execSegRsv10 (s : State) : Host.Outcome State Fault Refusal :=
  driveSegments s 10 0x00

/-- SEG_RSV_11 (45 R138, reserved, blank). -/
def execSegRsv11 (s : State) : Host.Outcome State Fault Refusal :=
  driveSegments s 11 0x00

/-- SEG_RSV_12 (45 R138, reserved, blank). -/
def execSegRsv12 (s : State) : Host.Outcome State Fault Refusal :=
  driveSegments s 12 0x00

/-- SEG_RSV_13 (45 R138, reserved, blank). -/
def execSegRsv13 (s : State) : Host.Outcome State Fault Refusal :=
  driveSegments s 13 0x00

/-- SEG_RSV_14 (45 R138, reserved, blank). -/
def execSegRsv14 (s : State) : Host.Outcome State Fault Refusal :=
  driveSegments s 14 0x00

/-- SEG_RSV_15 (45 R138, reserved, blank). -/
def execSegRsv15 (s : State) : Host.Outcome State Fault Refusal :=
  driveSegments s 15 0x00

end Sys2Proof.Machine
end

