-- ==== Sys2Proof/Machine/TimeCore.lean ====
section
/-! DEFINITION. The eight rows of the Time Core (spec 43 R104-R111), each from its own pseudocode. A row alone is the
Time Core's share of a RUN cycle with that event word; the registers of the other components keep their values (log 2). -/

namespace Sys2Proof.Machine

/-- The result of a Time Core row: the three fields, and the wires 43 R100 names. DESIGN CHOICE (log 2, log 21): alone,
the row leaves every other register and recorded wire as it is. -/
def writeTime (s : State) (t m h cS cM : Bool) (sec min hr : Field6) : State :=
  { s with
    sec := sec
    min := min
    hr  := hr
    wires := { s.wires with
      tick := t
      incMinutes := m
      incHours := h
      cS := cS
      cM := cM
      sNext := sec
      mNext := min
      hNext := hr } }

/-- A row's result where 43 R112 defines it: admitted parameters and time fields in range. Log 9. -/
def timeCoreRow (s result : State) : Host.Outcome State Fault Refusal :=
  if !s.params.wf then .refused .paramsNotAdmitted
  else if !s.timeInRange then .refused .outsideInvariant
  else .next result

/-- `(hr + 1 == H) ? 0 : hr + 1` of 43 R105. -/
def hrPlusOne (s : State) : Field6 :=
  if s.hr.toNat + 1 = s.params.hourMod then 0 else s.hr + 1

/-- CORE_IDLE (43 R104). -/
def execCoreIdle (s : State) : Host.Outcome State Fault Refusal :=
  timeCoreRow s (writeTime s false false false false false s.sec s.min s.hr)

/-- CORE_T (43 R105). -/
def execCoreT (s : State) : Host.Outcome State Fault Refusal :=
  timeCoreRow s
    (if s.sec ≠ 59 then writeTime s true false false false false (s.sec + 1) s.min s.hr
     else if s.min ≠ 59 then writeTime s true false false true false 0 (s.min + 1) s.hr
     else writeTime s true false false true true 0 0 (hrPlusOne s))

/-- CORE_M (43 R106). -/
def execCoreM (s : State) : Host.Outcome State Fault Refusal :=
  timeCoreRow s
    (if s.min ≠ 59 then writeTime s false true false false false s.sec (s.min + 1) s.hr
     else writeTime s false true false false true s.sec 0 (hrPlusOne s))

/-- CORE_TM (43 R107). -/
def execCoreTM (s : State) : Host.Outcome State Fault Refusal :=
  let cS := decide (s.sec = 59)
  let sec := if s.sec ≠ 59 then s.sec + 1 else 0
  let dm := if s.sec ≠ 59 then 1 else 2
  let mins := wrapInc s.min.toNat dm 60
  timeCoreRow s
    (writeTime s true true false cS mins.2 sec (BitVec.ofNat 6 mins.1) (if mins.2 then hrPlusOne s else s.hr))

/-- CORE_H (43 R108). -/
def execCoreH (s : State) : Host.Outcome State Fault Refusal :=
  timeCoreRow s (writeTime s false false true false false s.sec s.min (hrPlusOne s))

/-- CORE_TH (43 R109). -/
def execCoreTH (s : State) : Host.Outcome State Fault Refusal :=
  let secs := wrapInc s.sec.toNat 1 60
  let mins := wrapInc s.min.toNat secs.2.toNat 60
  let hrs := wrapInc s.hr.toNat (mins.2.toNat + 1) s.params.hourMod
  timeCoreRow s
    (writeTime s true false true secs.2 mins.2 (BitVec.ofNat 6 secs.1) (BitVec.ofNat 6 mins.1) (BitVec.ofNat 6 hrs.1))

/-- CORE_MH (43 R110). -/
def execCoreMH (s : State) : Host.Outcome State Fault Refusal :=
  let mins := wrapInc s.min.toNat 1 60
  let hrs := wrapInc s.hr.toNat (mins.2.toNat + 1) s.params.hourMod
  timeCoreRow s
    (writeTime s false true true false mins.2 s.sec (BitVec.ofNat 6 mins.1) (BitVec.ofNat 6 hrs.1))

/-- CORE_TMH (43 R111). -/
def execCoreTMH (s : State) : Host.Outcome State Fault Refusal :=
  let secs := wrapInc s.sec.toNat 1 60
  let mins := wrapInc s.min.toNat (secs.2.toNat + 1) 60
  let hrs := wrapInc s.hr.toNat (mins.2.toNat + 1) s.params.hourMod
  timeCoreRow s
    (writeTime s true true true secs.2 mins.2 (BitVec.ofNat 6 secs.1) (BitVec.ofNat 6 mins.1) (BitVec.ofNat 6 hrs.1))

end Sys2Proof.Machine
end

