-- ==== Sys2Proof/Machine/Dispatch.lean ====
section
/-! DEFINITION. One arm per row of the opcode table. -/

namespace Sys2Proof.Machine

def exec (i : Instr) (s : State) : Host.Outcome State Fault Refusal :=
  match i with
  | .reset h m => Sys2Proof.Machine.execReset h m s
  | .run h m => Sys2Proof.Machine.execRun h m s
  | .coreIdle => Sys2Proof.Machine.execCoreIdle s
  | .coreT => Sys2Proof.Machine.execCoreT s
  | .coreM => Sys2Proof.Machine.execCoreM s
  | .coreTM => Sys2Proof.Machine.execCoreTM s
  | .coreH => Sys2Proof.Machine.execCoreH s
  | .coreTH => Sys2Proof.Machine.execCoreTH s
  | .coreMH => Sys2Proof.Machine.execCoreMH s
  | .coreTMH => Sys2Proof.Machine.execCoreTMH s
  | .seg0 => Sys2Proof.Machine.execSeg0 s
  | .seg1 => Sys2Proof.Machine.execSeg1 s
  | .seg2 => Sys2Proof.Machine.execSeg2 s
  | .seg3 => Sys2Proof.Machine.execSeg3 s
  | .seg4 => Sys2Proof.Machine.execSeg4 s
  | .seg5 => Sys2Proof.Machine.execSeg5 s
  | .seg6 => Sys2Proof.Machine.execSeg6 s
  | .seg7 => Sys2Proof.Machine.execSeg7 s
  | .seg8 => Sys2Proof.Machine.execSeg8 s
  | .seg9 => Sys2Proof.Machine.execSeg9 s
  | .segRsv10 => Sys2Proof.Machine.execSegRsv10 s
  | .segRsv11 => Sys2Proof.Machine.execSegRsv11 s
  | .segRsv12 => Sys2Proof.Machine.execSegRsv12 s
  | .segRsv13 => Sys2Proof.Machine.execSegRsv13 s
  | .segRsv14 => Sys2Proof.Machine.execSegRsv14 s
  | .segRsv15 => Sys2Proof.Machine.execSegRsv15 s
  | .cs0 => Sys2Proof.Machine.execCs0 s
  | .cs1 => Sys2Proof.Machine.execCs1 s
  | .cs2 => Sys2Proof.Machine.execCs2 s
  | .cs3 => Sys2Proof.Machine.execCs3 s
  | .cs4 => Sys2Proof.Machine.execCs4 s
  | .cs5 => Sys2Proof.Machine.execCs5 s
  | .csRsv6 => Sys2Proof.Machine.execCsRsv6 s
  | .csRsv7 => Sys2Proof.Machine.execCsRsv7 s

end Sys2Proof.Machine
end

