-- ==== Sys2Proof/Machine/Fetch.lean ====
section
/-! DEFINITION. Where a step's request comes from: the queued requests first, then free `CYC` words (spec 00 R16, 46 R152). -/

namespace Sys2Proof.Machine

/-- What the next step is asked to run. Where nothing is queued it is the sampling of a free value, any of the eight
`CYC` words (92 D19). -/
def nextRequest (s : State) : Request :=
  match s.inputs with
  | [] => .cyc (Config.freeCyc s.draws)
  | r :: _ => r

/-- The state with that request taken. -/
def takeInput (s : State) : State :=
  match s.inputs with
  | [] => { s with draws := s.draws + 1 }
  | _ :: rest => { s with inputs := rest }

end Sys2Proof.Machine
end

