-- ==== Sys2Proof/Machine/Step.lean ====
section
/-! DEFINITION. One step: take the next request, decode it, run it. -/

namespace Sys2Proof.Machine

/-- One step of the machine (46 R152). No request carries an event word: the Time Core's events reach it in RUN alone,
as the block's own wires (30 R65). -/
def step (s : State) : Host.Outcome State Fault Refusal :=
  exec (requestInstr (nextRequest s)) (takeInput s)

/-- `s` with a table word queued as the next request. A number wider than every format makes no request, and queues
none. -/
def State.withFetchWord (s : State) (_nbits w : Nat) : State :=
  match (tableCode w).bind codeRequest with
  | some r => { s with inputs := r :: s.inputs }
  | none => s

end Sys2Proof.Machine
end

