-- ==== Sys2Proof/Machine/Stimulus.lean ====
section
/-! DEFINITION. The stimulus notation of spec 30 R72 and R73: statements, the `CYC` words they stand for, and the text
they are written in. A program is loaded from outside the block (log 7). -/

namespace Sys2Proof.Machine

/-- One statement of the notation. `m` and `h` are the raw levels where the line gives them. -/
inductive Stmt where
  /-- `RESET` or `RUN`, with K cycles (30 R72). -/
  | cycles (rst : Bool) (m h : Option Bool) (k : Nat)
  /-- `IDLE K` (30 R73). -/
  | idle (k : Nat)
  /-- `HOLD_M K` (30 R73). -/
  | holdM (k : Nat)
  /-- `HOLD_H K` (30 R73). -/
  | holdH (k : Nat)
  /-- `TAP_M` (30 R73). -/
  | tapM
  /-- `TAP_H` (30 R73). -/
  | tapH
  deriving DecidableEq, Repr

/-- The raw level of a released button, `BTN_ACTIVE_LOW ? 1 : 0` (30 R72). -/
def releasedLevel (p : Params) : Bool := p.btnActiveLow

/-- The raw level of a pressed button, PR of 30 R73. -/
def pressedRaw (p : Params) : Bool := !p.btnActiveLow

/-- A cycle with the word {R, h, m} (30 R72). -/
def cycWord (rst h m : Bool) : Request :=
  .cyc (cycLines rst h m)

/-- The `CYC` words of a statement, one per cycle (30 R72, R73). -/
def stmtWords (p : Params) : Stmt → List Request
  | .cycles rst m h k =>
    List.replicate k (cycWord rst (h.getD (releasedLevel p)) (m.getD (releasedLevel p)))
  | .idle k  => List.replicate k (cycWord false (releasedLevel p) (releasedLevel p))
  | .holdM k => List.replicate k (cycWord false (releasedLevel p) (pressedRaw p))
  | .holdH k => List.replicate k (cycWord false (pressedRaw p) (releasedLevel p))
  | .tapM =>
    [cycWord false (releasedLevel p) (pressedRaw p), cycWord false (releasedLevel p) (releasedLevel p)]
  | .tapH =>
    [cycWord false (pressedRaw p) (releasedLevel p), cycWord false (releasedLevel p) (releasedLevel p)]

/-- The words of a program, in order. -/
def programWords (p : Params) (prog : List Stmt) : List Request :=
  prog.flatMap (stmtWords p)

/-- The state with a program's words as the inputs to come. -/
def State.load (s : State) (prog : List Stmt) : State :=
  { s with inputs := programWords s.params prog }

/-- A line without its comment: `;` starts one (30 R72). -/
def dropComment (line : List Char) : List Char :=
  line.takeWhile (fun c => c != ';')

/-- The words of a line, split at blanks. -/
def lineTokens (line : List Char) : List (List Char) :=
  (line.splitOnP (fun c => c == ' ' || c == '\t')).filter (fun t => !t.isEmpty)

/-- A decimal numeral. -/
def decimal (cs : List Char) : Option Nat :=
  if cs.isEmpty || !(cs.all fun c => 48 ≤ c.toNat && c.toNat ≤ 57) then none
  else some (cs.foldl (fun n c => 10 * n + (c.toNat - 48)) 0)

/-- An optional field `m=<0|1>` or `h=<0|1>`, and the words after it. -/
def levelField (name : Char) (ts : List (List Char)) : Option Bool × List (List Char) :=
  match ts with
  | [a, '=', '0'] :: rest => if a = name then (some false, rest) else (none, ts)
  | [a, '=', '1'] :: rest => if a = name then (some true, rest) else (none, ts)
  | _ => (none, ts)

/-- The optional count `xK` that ends a line, 1 where it is left out. -/
def countField (ts : List (List Char)) : Option Nat :=
  match ts with
  | [] => some 1
  | [ 'x' :: k ] => decimal k
  | _ => none

/-- The fields of a `RESET` or `RUN` line, in the order 30 R72 prints them. -/
def cyclesLine (rst : Bool) (ts : List (List Char)) : Option Stmt :=
  let m := levelField 'm' ts
  let h := levelField 'h' m.2
  (countField h.2).map (Stmt.cycles rst m.1 h.1)

/-- One line: nothing for a blank or comment line, a statement, or a rejection. -/
def parseLine (line : List Char) : Option (List Stmt) :=
  match lineTokens (dropComment line) with
  | [] => some []
  | op :: args =>
    if op = ['R', 'E', 'S', 'E', 'T'] then (cyclesLine true args).map ([·])
    else if op = ['R', 'U', 'N'] then (cyclesLine false args).map ([·])
    else match args with
      | [] =>
        if op = ['T', 'A', 'P', '_', 'M'] then some [.tapM]
        else if op = ['T', 'A', 'P', '_', 'H'] then some [.tapH]
        else none
      | [k] =>
        if op = ['I', 'D', 'L', 'E'] then (decimal k).map fun n => [.idle n]
        else if op = ['H', 'O', 'L', 'D', '_', 'M'] then (decimal k).map fun n => [.holdM n]
        else if op = ['H', 'O', 'L', 'D', '_', 'H'] then (decimal k).map fun n => [.holdH n]
        else none
      | _ => none

/-- A program's lines, in order: rejected if any line is. -/
def parseLines (lines : List (List Char)) : Option (List Stmt) :=
  match lines with
  | [] => some []
  | l :: rest =>
    match parseLine l, parseLines rest with
    | some a, some b => some (a ++ b)
    | _, _ => none

/-- A program's text, one statement a line. -/
def parseProgram (text : List Char) : Option (List Stmt) :=
  parseLines (text.splitOn '\n')

end Sys2Proof.Machine
end

