-- ==== Sys2Proof/Safety.lean ====
section
/-! DEFINITION. The terms the statements about the machine use: its invariant (spec 10 R33), what two states share, runs,
and the time of day. -/

namespace Sys2Proof.Machine

/-- The invariant of 10 R33, with the parameters in the ranges of 00 R8. -/
def State.Inv (s : State) : Prop :=
  s.params.wf = true ∧ s.inRange = true

/-- What a Time Core row needs (43 R112): admitted parameters and the time fields of 10 R33. -/
def State.TimeInv (s : State) : Prop :=
  s.params.wf = true ∧ s.timeInRange = true

/-- All twelve registers of 10 R20 are 0. -/
def State.AtZero (s : State) : Prop :=
  s.tickCnt = 0 ∧ s.btnM = ⟨false, false, false⟩ ∧ s.btnH = ⟨false, false, false⟩ ∧ s.sec = 0 ∧ s.min = 0
    ∧ s.hr = 0 ∧ s.refCnt = 0 ∧ s.digitIdx = 0

/-- The two states hold the same in all twelve registers of 10 R20. -/
def SameRegisters (s t : State) : Prop :=
  s.tickCnt = t.tickCnt ∧ s.btnM = t.btnM ∧ s.btnH = t.btnH ∧ s.sec = t.sec ∧ s.min = t.min ∧ s.hr = t.hr
    ∧ s.refCnt = t.refCnt ∧ s.digitIdx = t.digitIdx

/-- The registers outside the Time Core, the parameters and the inputs are the same. -/
def SameOutsideTimeCore (s t : State) : Prop :=
  s.tickCnt = t.tickCnt ∧ s.btnM = t.btnM ∧ s.btnH = t.btnH ∧ s.refCnt = t.refCnt ∧ s.digitIdx = t.digitIdx
    ∧ s.params = t.params ∧ s.inputs = t.inputs ∧ s.draws = t.draws

/-- What no cycle and no row writes: the parameters, and the inputs to come. -/
def SameEnvironment (s t : State) : Prop :=
  s.params = t.params ∧ s.inputs = t.inputs ∧ s.draws = t.draws

/-- The seconds since midnight that the time fields stand for. -/
def timeOfDay (s : State) : Nat :=
  3600 * s.hr.toNat + 60 * s.min.toNat + s.sec.toNat

/-- The Time Core's total-delta result of 43 R100 on the three events, in numbers: the fields, and the wires that rule
names. -/
def totalDelta (s : State) (t m h : Bool) : State :=
  let cS := decide (60 ≤ s.sec.toNat + t.toNat)
  let dm := cS.toNat + m.toNat
  let cM := decide (60 ≤ s.min.toNat + dm)
  let dh := cM.toNat + h.toNat
  let sec := BitVec.ofNat 6 ((s.sec.toNat + t.toNat) % 60)
  let mins := BitVec.ofNat 6 ((s.min.toNat + dm) % 60)
  let hrs := BitVec.ofNat 6 ((s.hr.toNat + dh) % s.params.hourMod)
  { s with sec := sec, min := mins, hr := hrs,
           wires := { s.wires with tick := t, incMinutes := m, incHours := h, cS := cS, cM := cM,
                                   sNext := sec, mNext := mins, hNext := hrs } }

/-- The result of a segment decoder row (45 R138, R139): the code, its pattern and the segment port. -/
def segmentsShown (s : State) (code : Digit) (pattern : Segments) : State :=
  { s with wires := { s.wires with curDigit := code, segLogic := pattern,
                                   segOut := if s.params.segActiveLow then ~~~pattern else pattern } }

/-- The column "hex" of the table of 45 R138: the pattern of each digit code, blank from 10 on. -/
def glyph (code : Digit) : Segments :=
  [0x3F, 0x06, 0x5B, 0x4F, 0x66, 0x6D, 0x7D, 0x07, 0x7F, 0x6F].getD code.toNat 0x00

/-- The result of a chip-select row (45 R137-R140): the digit code and its pattern, the line, and each port's value under
its polarity, the chip-select port's as the table of 45 R140 prints them. -/
def positionSelected (s : State) (code : Digit) (high low : Select) : State :=
  { s with wires := { s.wires with values := bcdDigits s, curDigit := code, segLogic := glyph code, csLogic := high,
                                   segOut := if s.params.segActiveLow then ~~~(glyph code) else glyph code,
                                   csOut := if s.params.csActiveLow then low else high } }

/-- The RUN words of a list of raw levels (h, m), one per cycle. -/
def runWords (levels : List (Bool × Bool)) : List Request :=
  levels.map fun l => cycWord false l.1 l.2

/-- `s` run for the RUN cycles of `levels`. -/
def runCycles (levels : List (Bool × Bool)) (s : State) : Host.Outcome State Fault Refusal :=
  Host.Core.run Sys2Proof.core levels.length { s with inputs := runWords levels }

/-- The instruction `i` executed `n` times over. -/
def execTimes (i : Instr) : Nat → State → Host.Outcome State Fault Refusal
  | 0, s => .next s
  | n + 1, s =>
    match exec i s with
    | .next t => execTimes i n t
    | .fault f => .fault f
    | .refused r => .refused r

end Sys2Proof.Machine
end

