-- ==== Sys2Proof/Certificates/Slice0/Obligations.lean ====
section
/-! DEFINITION. The statements for the provers. Where a statement reads `wires`, it reads the model's own record of what
the wires carried in the cycle just run (log 5). -/

open Sys2Proof Sys2Proof.Machine

/-! ## Reset -/

/-- 70 R175 (marked decision D14): every register is 0 after reset. H = 24 and the three polarities are the values 00
section 4 (R8) gives the parameters; that `State.reset` holds them so is the model's DESIGN CHOICE (log 4), as are the empty
queue and the draw count (log 7). -/
def Obligations.ResetStateIsZero : Prop :=
  State.reset.AtZero ∧ State.reset.params.hourMod = 24 ∧ State.reset.params.btnActiveLow = false
    ∧ State.reset.params.csActiveLow = false ∧ State.reset.params.segActiveLow = false
    ∧ State.reset.inputs = [] ∧ State.reset.draws = 0

/-- 70 R175: the wires recorded at reset are those the zero state gives (the record is the model's, log 5). -/
def Obligations.ResetWiresAreThoseOfZeroState : Prop :=
  State.reset.wires = cycleWires State.reset

/-- The invariant of 10 R33 holds at reset, for every F and R (log 4). -/
def Obligations.ResetStateMeetsInvariant : Prop :=
  State.reset.Inv

/-- 46 R151 (marked decision D14): from every state a RESET cycle zeroes every register and keeps what is none; position
0 is selected, showing 0, under the board's polarities. -/
def Obligations.ResetCycleZeroesEveryRegister : Prop :=
  ∀ (h m : Bool) (s : State), ∃ t, exec (.reset h m) s = .next t ∧ t.AtZero ∧ SameEnvironment s t
    ∧ t.wires.incMinutes = false ∧ t.wires.incHours = false
    ∧ t.wires.csOut = polar 0b000001 s.params.csActiveLow ∧ t.wires.segOut = polar 0x3F s.params.segActiveLow

/-- 46 R151: the state before a RESET cycle and its H and M fields are ignored. -/
def Obligations.ResetForgetsStateAndLevels : Prop :=
  ∀ (h m h' m' : Bool) (s s' : State), s.params = s'.params →
    ∃ t t', exec (.reset h m) s = .next t ∧ exec (.reset h' m') s' = .next t' ∧ SameRegisters t t' ∧ t.wires = t'.wires

/-- 10 R33 and 70 R176: a RESET word restores the invariant from any register values whatever. -/
def Obligations.ResetWordRecoversFromAnyState : Prop :=
  ∀ (h m : Bool) (rest : List Request) (s : State), s.params.wf = true → s.inputs = cycWord true h m :: rest →
    ∃ t, step s = .next t ∧ t.AtZero ∧ t.Inv ∧ t.inputs = rest ∧ t.params = s.params ∧ t.draws = s.draws

/-! ## RUN -/

/-- 46 R150: the next value of all twelve registers, from the values at the start of the cycle, and the outputs of the
cycle. The Time Core's total delta is decision D4. -/
def Obligations.RunGivesAllTwelveRegisters : Prop :=
  ∀ (h m : Bool) (s : State), s.Inv →
    ∃ t, exec (.run h m) s = .next t
      ∧ t.tickCnt = (if s.tickCnt = s.params.tickPeriod - 1 then 0 else s.tickCnt + 1)
      ∧ t.btnM = ⟨m ^^ s.params.btnActiveLow, s.btnM.sync1, s.btnM.sync2⟩
      ∧ t.btnH = ⟨h ^^ s.params.btnActiveLow, s.btnH.sync1, s.btnH.sync2⟩
      ∧ (let d := totalDelta s (decide (s.tickCnt = s.params.tickPeriod - 1)) (s.btnM.sync2 && !s.btnM.prev)
                    (s.btnH.sync2 && !s.btnH.prev)
         t.sec = d.sec ∧ t.min = d.min ∧ t.hr = d.hr)
      ∧ t.refCnt = (if s.refCnt = s.params.refreshDiv - 1 then 0 else s.refCnt + 1)
      ∧ t.digitIdx =
          (if s.refCnt = s.params.refreshDiv - 1 then (if s.digitIdx = 5 then 0 else s.digitIdx + 1) else s.digitIdx)
      ∧ (t.wires.csOut, t.wires.segOut) = outputs s
      ∧ SameEnvironment s t

/-- 10 R33 (decision D20) and log 10: where RUN has no successor, and under which name it is refused. -/
def Obligations.RunRefusedOutsideInvariant : Prop :=
  ∀ (h m : Bool) (s : State),
    (s.params.wf = false → exec (.run h m) s = .refused .paramsNotAdmitted)
    ∧ (s.params.wf = true → s.inRange = false → exec (.run h m) s = .refused .outsideInvariant)

/-- 41 R81: the TICKGEN step; the count never exceeds P-1. -/
def Obligations.RunStepsTickDivider : Prop :=
  ∀ (h m : Bool) (s : State), s.Inv →
    ∃ t, exec (.run h m) s = .next t
      ∧ t.tickCnt = (if s.tickCnt = s.params.tickPeriod - 1 then 0 else s.tickCnt + 1)
      ∧ t.tickCnt ≤ s.params.tickPeriod - 1

/-- 42 R91: the EDGE step of both detectors is a three-stage shift register. -/
def Obligations.RunShiftsEdgeDetectors : Prop :=
  ∀ (h m : Bool) (s : State), s.Inv →
    ∃ t, exec (.run h m) s = .next t
      ∧ t.btnM.sync1 = pressedLevel s m ∧ t.btnM.sync2 = s.btnM.sync1 ∧ t.btnM.prev = s.btnM.sync2
      ∧ t.btnH.sync1 = pressedLevel s h ∧ t.btnH.sync2 = s.btnH.sync1 ∧ t.btnH.prev = s.btnH.sync2

/-- 45 R132: the INDEX step. -/
def Obligations.RunStepsDigitIndex : Prop :=
  ∀ (h m : Bool) (s : State), s.Inv →
    ∃ t, exec (.run h m) s = .next t
      ∧ t.digitIdx.toNat = (if refAdvWire s then (s.digitIdx.toNat + 1) % 6 else s.digitIdx.toNat)

/-- 45 R130, R131 (decision D15): the REFRESH step; the count never exceeds N-1. -/
def Obligations.RunStepsRefreshDivider : Prop :=
  ∀ (h m : Bool) (s : State), s.Inv →
    ∃ t, exec (.run h m) s = .next t
      ∧ t.refCnt = (s.refCnt + 1) % s.params.refreshDiv ∧ t.refCnt ≤ s.params.refreshDiv - 1

/-- 43 R100 (decision D4): a RUN cycle advances the time of day by the sum of its events, modulo one day. -/
def Obligations.RunAdvancesTimeOfDay : Prop :=
  ∀ (h m : Bool) (s : State), s.Inv →
    ∃ t, exec (.run h m) s = .next t
      ∧ timeOfDay t = (timeOfDay s + (tickWire s).toNat + 60 * (pulse s.btnM).toNat + 3600 * (pulse s.btnH).toNat)
          % (3600 * s.params.hourMod)

/-- 43 R103: the carries are exact, and each field advances by its carry and its event. The carries are read in the
model's record (log 5). -/
def Obligations.RunCarriesAreExact : Prop :=
  ∀ (h m : Bool) (s : State), s.Inv →
    ∃ t, exec (.run h m) s = .next t
      ∧ (t.wires.cS = true ↔ tickWire s = true ∧ s.sec = 59)
      ∧ (t.wires.cM = true ↔ 60 ≤ s.min.toNat + t.wires.cS.toNat + (pulse s.btnM).toNat)
      ∧ t.sec.toNat = (s.sec.toNat + (tickWire s).toNat) % 60
      ∧ t.min.toNat = (s.min.toNat + t.wires.cS.toNat + (pulse s.btnM).toNat) % 60
      ∧ t.hr.toNat = (s.hr.toNat + t.wires.cM.toNat + (pulse s.btnH).toNat) % s.params.hourMod

/-- 30 R64 with 43 R100, R104-R111: the Time Core's share of a RUN cycle is the row its event word selects. -/
def Obligations.RunMatchesItsEventRow : Prop :=
  ∀ (h m : Bool) (s : State), s.Inv →
    ∃ t u, exec (.run h m) s = .next t ∧ exec (evtInstr (evtWord s)) s = .next u
      ∧ t.sec = u.sec ∧ t.min = u.min ∧ t.hr = u.hr
      ∧ t.wires.tick = u.wires.tick ∧ t.wires.incMinutes = u.wires.incMinutes ∧ t.wires.incHours = u.wires.incHours
      ∧ t.wires.cS = u.wires.cS ∧ t.wires.cM = u.wires.cM

/-- 45 R137-R140: the outputs of a RUN cycle are what the chip-select row of its index drives, and the segment row of the
digit code it selects drives the same pattern. That the segment row, run alone after the chip-select row, leaves the
chip-select bus as recorded is the model's DESIGN CHOICE (log 2, log 21); the wires are read in the model's record
(log 5). -/
def Obligations.RunMatchesItsDisplayRows : Prop :=
  ∀ (h m : Bool) (s : State), s.Inv →
    ∃ t u v, exec (.run h m) s = .next t ∧ exec (idxInstr s.digitIdx) s = .next u
      ∧ exec (digInstr u.wires.curDigit) u = .next v
      ∧ t.wires.curDigit = v.wires.curDigit ∧ t.wires.csLogic = v.wires.csLogic ∧ t.wires.csOut = v.wires.csOut
      ∧ t.wires.segLogic = v.wires.segLogic ∧ t.wires.segOut = v.wires.segOut
      ∧ u.wires.segLogic = v.wires.segLogic ∧ u.wires.segOut = v.wires.segOut
      ∧ u.wires.curDigit = v.wires.curDigit ∧ u.wires.csOut = v.wires.csOut

/-- 45 R140 (decisions D8, D11): in a RUN cycle exactly one chip-select line is active, one-hot or one-cold by the polarity. -/
def Obligations.RunDrivesExactlyOneLine : Prop :=
  ∀ (h m : Bool) (s : State), s.Inv →
    ∃ t, exec (.run h m) s = .next t
      ∧ ∀ i, i < 6 → t.wires.csOut.getLsbD i = (decide (i = s.digitIdx.toNat) ^^ s.params.csActiveLow)

/-- 44 R122: the six digits of a RUN cycle stand for the three fields and lie in their ranges. -/
def Obligations.RunDigitsStandForFields : Prop :=
  ∀ (h m : Bool) (s : State), s.Inv →
    ∃ t, exec (.run h m) s = .next t
      ∧ t.wires.values.secTens.toNat * 10 + t.wires.values.secOnes.toNat = s.sec.toNat
      ∧ t.wires.values.minTens.toNat * 10 + t.wires.values.minOnes.toNat = s.min.toNat
      ∧ t.wires.values.hrTens.toNat * 10 + t.wires.values.hrOnes.toNat = s.hr.toNat
      ∧ t.wires.values.secTens.toNat ≤ 5 ∧ t.wires.values.minTens.toNat ≤ 5
      ∧ t.wires.values.hrTens.toNat ≤ (s.params.hourMod - 1) / 10
      ∧ t.wires.values.secOnes.toNat ≤ 9 ∧ t.wires.values.minOnes.toNat ≤ 9 ∧ t.wires.values.hrOnes.toNat ≤ 9

/-- 20 R53: only the first synchronizer stages read the raw lines, through the polarity inversion. -/
def Obligations.RawLinesReachFirstStagesOnly : Prop :=
  ∀ (h m h' m' : Bool) (s : State), s.Inv →
    ∃ t, exec (.run h m) s = .next t
      ∧ t.btnM.sync1 = (m ^^ s.params.btnActiveLow) ∧ t.btnH.sync1 = (h ^^ s.params.btnActiveLow)
      ∧ exec (.run h' m') s = .next { t with
          btnM := { t.btnM with sync1 := m' ^^ s.params.btnActiveLow }
          btnH := { t.btnH with sync1 := h' ^^ s.params.btnActiveLow } }

/-- 42 R96: neither detector reads the other, and two presses first sampled in one cycle a give both pulses in cycle
a+2, event bits 1 and 2 together. -/
def Obligations.EdgeDetectorsAreIndependent : Prop :=
  (∀ (h h' m : Bool) (d : EdgeDetector) (s : State), s.Inv →
    ∃ t u, exec (.run h m) s = .next t ∧ exec (.run h' m) { s with btnH := d } = .next u ∧ t.btnM = u.btnM)
  ∧ (∀ (h m m' : Bool) (d : EdgeDetector) (s : State), s.Inv →
    ∃ t u, exec (.run h m) s = .next t ∧ exec (.run h m') { s with btnM := d } = .next u ∧ t.btnH = u.btnH)
  ∧ (∀ (h m : Bool) (s : State), s.Inv → s.btnM.sync1 = false → s.btnH.sync1 = false →
    ∃ t, runCycles [(pressedRaw s.params, pressedRaw s.params), (h, m)] s = .next t
      ∧ (evtWord t).getLsbD 1 = true ∧ (evtWord t).getLsbD 2 = true)

/-- 41 R84 and 45 R133: the two dividers and the index run freely: their next values depend on themselves and on P and
N alone. -/
def Obligations.DividersRunFreely : Prop :=
  ∀ (h m h' m' : Bool) (s s' : State), s.Inv → s'.Inv → s.tickCnt = s'.tickCnt → s.refCnt = s'.refCnt →
    s.digitIdx = s'.digitIdx → s.params.tickPeriod = s'.params.tickPeriod →
    s.params.refreshDiv = s'.params.refreshDiv →
    ∃ t t', exec (.run h m) s = .next t ∧ exec (.run h' m') s' = .next t' ∧ t.tickCnt = t'.tickCnt
      ∧ t.refCnt = t'.refCnt ∧ t.digitIdx = t'.digitIdx

/-! ## Time Core rows -/

/-- 43 R100 with R104-R111 (decision D4 for two and three events): each row's whole result is the total delta of its
events. That a row run alone leaves `tick_cnt`, the flops, `ref_cnt`, `digit_idx` and the other recorded wires as they
are is the model's DESIGN CHOICE (log 2, log 21). -/
def Obligations.EventRowsAreTotalDelta : Prop :=
  ∀ s : State, s.TimeInv →
    exec .coreIdle s = .next (totalDelta s false false false)
    ∧ exec .coreT s = .next (totalDelta s true false false)
    ∧ exec .coreM s = .next (totalDelta s false true false)
    ∧ exec .coreTM s = .next (totalDelta s true true false)
    ∧ exec .coreH s = .next (totalDelta s false false true)
    ∧ exec .coreTH s = .next (totalDelta s true false true)
    ∧ exec .coreMH s = .next (totalDelta s false true true)
    ∧ exec .coreTMH s = .next (totalDelta s true true true)

/-- 43 R101, R112: each row advances the time of day by the sum of its events modulo one day, and keeps its ranges. -/
def Obligations.EventRowsAdvanceTimeOfDay : Prop :=
  ∀ (t m h : Bool) (s : State), s.TimeInv →
    ∃ u, exec (evtInstr (word3 h m t)) s = .next u ∧ u.TimeInv
      ∧ timeOfDay u = (timeOfDay s + t.toNat + 60 * m.toNat + 3600 * h.toNat) % (3600 * s.params.hourMod)

/-- 43 R102: which events reach which fields, and the frame of all eight rows. That a row alone leaves the other
components and wires as they are is the model's choice (log 2, log 21). -/
def Obligations.EventRowsReachOnlyTheirFields : Prop :=
  ∀ (t m h : Bool) (s u : State), exec (evtInstr (word3 h m t)) s = .next u →
    SameOutsideTimeCore s u
    ∧ (t = false → u.sec = s.sec)
    ∧ (t = false → m = false → u.min = s.min)
    ∧ (t = false → m = false → h = false → u.hr = s.hr)
    ∧ u.wires.values = s.wires.values ∧ u.wires.refAdv = s.wires.refAdv ∧ u.wires.curDigit = s.wires.curDigit
    ∧ u.wires.segLogic = s.wires.segLogic ∧ u.wires.csLogic = s.wires.csLogic ∧ u.wires.segOut = s.wires.segOut
    ∧ u.wires.csOut = s.wires.csOut

/-- Where a Time Core row has no successor (log 9, log 10; 43 R112 defines the transition on the ranges only). -/
def Obligations.EventRowsRefusedOutsideRanges : Prop :=
  ∀ (w : BitVec 3) (s : State),
    (s.params.wf = false → exec (evtInstr w) s = .refused .paramsNotAdmitted)
    ∧ (s.params.wf = true → s.timeInRange = false → exec (evtInstr w) s = .refused .outsideInvariant)

/-- 43 R113: from sec = 0, sixty CORE_T advance the clock by exactly one minute. -/
def Obligations.SixtyTicksAreOneMinute : Prop :=
  ∀ s : State, s.TimeInv → s.sec = 0 →
    ∃ t, execTimes .coreT 60 s = .next t ∧ t.sec = 0
      ∧ 60 * t.hr.toNat + t.min.toNat = (60 * s.hr.toNat + s.min.toNat + 1) % (60 * s.params.hourMod)

/-- 43 R113: from midnight, exactly the multiples of H*3600 CORE_T return to midnight. -/
def Obligations.DayLastsHourModTimes3600Ticks : Prop :=
  ∀ (n : Nat) (s : State), s.params.wf = true → s.sec = 0 → s.min = 0 → s.hr = 0 →
    ∃ t, execTimes .coreT n s = .next t
      ∧ ((t.sec = 0 ∧ t.min = 0 ∧ t.hr = 0) ↔ s.params.hourMod * 3600 ∣ n)

/-! ## Display rows -/

/-- 45 R138, R139 (decisions D9-D11; the glyphs are general knowledge, log 15): the pattern each digit code drives. What
a row alone leaves as it is, is the model's choice (log 2, log 21). -/
def Obligations.SegmentRowsShowTheirGlyph : Prop :=
  ∀ s : State,
    exec .seg0 s = .next (segmentsShown s 0 0b00111111)
    ∧ exec .seg1 s = .next (segmentsShown s 1 0b00000110)
    ∧ exec .seg2 s = .next (segmentsShown s 2 0b01011011)
    ∧ exec .seg3 s = .next (segmentsShown s 3 0b01001111)
    ∧ exec .seg4 s = .next (segmentsShown s 4 0b01100110)
    ∧ exec .seg5 s = .next (segmentsShown s 5 0b01101101)
    ∧ exec .seg6 s = .next (segmentsShown s 6 0b01111101)
    ∧ exec .seg7 s = .next (segmentsShown s 7 0b00000111)
    ∧ exec .seg8 s = .next (segmentsShown s 8 0b01111111)
    ∧ exec .seg9 s = .next (segmentsShown s 9 0b01101111)

/-- 30 R66, 45 R138 (decision D11): the reserved digit codes show blank. What a row alone leaves as it is, is the model's
choice (log 2, log 21). -/
def Obligations.ReservedSegmentRowsAreBlank : Prop :=
  ∀ s : State,
    exec .segRsv10 s = .next (segmentsShown s 10 0)
    ∧ exec .segRsv11 s = .next (segmentsShown s 11 0)
    ∧ exec .segRsv12 s = .next (segmentsShown s 12 0)
    ∧ exec .segRsv13 s = .next (segmentsShown s 13 0)
    ∧ exec .segRsv14 s = .next (segmentsShown s 14 0)
    ∧ exec .segRsv15 s = .next (segmentsShown s 15 0)

/-- 45 R136-R140 (decisions D7-D11; glyphs log 15): the line each position code drives, the digit it selects and the
pattern that shows it; 6 and 7 drive no line and show blank. That a row alone leaves the Time Core's wires as they are is
the model's choice (log 2, log 21). -/
def Obligations.SelectRowsDriveTheirLine : Prop :=
  ∀ s : State,
    exec .cs0 s = .next (positionSelected s (BitVec.ofNat 4 (s.sec.toNat % 10)) 0x01 0x3E)
    ∧ exec .cs1 s = .next (positionSelected s (BitVec.ofNat 4 (s.sec.toNat / 10)) 0x02 0x3D)
    ∧ exec .cs2 s = .next (positionSelected s (BitVec.ofNat 4 (s.min.toNat % 10)) 0x04 0x3B)
    ∧ exec .cs3 s = .next (positionSelected s (BitVec.ofNat 4 (s.min.toNat / 10)) 0x08 0x37)
    ∧ exec .cs4 s = .next (positionSelected s (BitVec.ofNat 4 (s.hr.toNat % 10)) 0x10 0x2F)
    ∧ exec .cs5 s = .next (positionSelected s (BitVec.ofNat 4 (s.hr.toNat / 10)) 0x20 0x1F)
    ∧ exec .csRsv6 s = .next (positionSelected s 15 0x00 0x3F)
    ∧ exec .csRsv7 s = .next (positionSelected s 15 0x00 0x3F)

/-- 45 R141 and the model's choices log 2 and log 21: no display row writes a register, a parameter or the inputs. 45 R138:
none lights dp, and a reserved position code shows blank. -/
def Obligations.DisplayRowsWriteNoRegister : Prop :=
  (∀ (d : Digit) (s : State), ∃ t, exec (digInstr d) s = .next t ∧ SameRegisters s t ∧ SameEnvironment s t
    ∧ t.wires.segLogic.getLsbD 7 = false ∧ t.wires.csOut = s.wires.csOut)
  ∧ (∀ (i : Index) (s : State), ∃ t, exec (idxInstr i) s = .next t ∧ SameRegisters s t ∧ SameEnvironment s t
    ∧ t.wires.segLogic.getLsbD 7 = false
    ∧ (6 ≤ i.toNat → t.wires.segLogic = 0 ∧ t.wires.segOut = polar 0 s.params.segActiveLow)
    ∧ t.wires.tick = s.wires.tick ∧ t.wires.incMinutes = s.wires.incMinutes ∧ t.wires.incHours = s.wires.incHours
    ∧ t.wires.refAdv = s.wires.refAdv)

/-- 44 R121: the BCD split of all 64 six-bit values. -/
def Obligations.BcdSplitsEveryValue : Prop :=
  ∀ v : Field6, (bcdTens v).toNat = v.toNat / 10 ∧ (bcdOnes v).toNat = v.toNat % 10

/-! ## Encoding -/

/-- 30 R62-R67: decoding an encoded instruction gives it back. -/
def Obligations.DecodeOfEncode : Prop :=
  ∀ i : Instr, decode (encode i) = .ok i

/-- 30 R62-R67: a code word has one meaning, and encoding it gives the word back. -/
def Obligations.EncodeOfDecode : Prop :=
  ∀ (c : CodeWord) (i : Instr), decode c = .ok i → encode i = c

/-- 30 R71: every code of every format is some row's; only a word with bits above its format is rejected (log 11). -/
def Obligations.DecodeRejectsOnlyBitsAboveFormat : Prop :=
  ∀ c : CodeWord, ((∃ i, decode c = .ok i) ↔ c.bits.toNat < 2 ^ c.fmt.width)
    ∧ (2 ^ c.fmt.width ≤ c.bits.toNat → decode c = .error (.bitsAboveFormat c.fmt c.bits))

/-- Words written out from 30 R62, R64, R66 and R67, one or more of each format. -/
def Obligations.DecodeOfSpecWords : Prop :=
  decode ⟨.cyc, 0b001⟩ = .ok (.run false true) ∧ decode ⟨.cyc, 0b110⟩ = .ok (.reset true false)
    ∧ decode ⟨.evt, 0b011⟩ = .ok .coreTM ∧ decode ⟨.evt, 0b100⟩ = .ok .coreH
    ∧ decode ⟨.dig, 0b1001⟩ = .ok .seg9 ∧ decode ⟨.dig, 0b1010⟩ = .ok .segRsv10
    ∧ decode ⟨.idx, 0b101⟩ = .ok .cs5 ∧ decode ⟨.idx, 0b110⟩ = .ok .csRsv6

/-- 30 R72, R73: the words of a program are `CYC` words, the statements' words in order. A RESET or RUN line is K words
{R, h, m}, an omitted field at the released level `BTN_ACTIVE_LOW`; `IDLE`, `HOLD_M` and `HOLD_H` are K RUN words and the
two taps are two, each with its lines pressed or released. -/
def Obligations.StimulusWordsAreCycWords : Prop :=
  ∀ p : Params,
    let released := p.btnActiveLow
    let pressed := !p.btnActiveLow
    let decoded := fun prog : List Stmt => (programWords p prog).map fun c => decode c.code
    (∀ (prog : List Stmt) (c : Request), c ∈ programWords p prog →
      c.code.fmt = .cyc ∧ ∃ h m, decode c.code = .ok (.reset h m) ∨ decode c.code = .ok (.run h m))
    ∧ (∀ prog prog' : List Stmt, decoded (prog ++ prog') = decoded prog ++ decoded prog')
    ∧ (∀ (rst : Bool) (m h : Option Bool) (k : Nat),
        programWords p [.cycles rst m h k]
          = List.replicate k (.cyc (BitVec.ofNat 3
              (4 * rst.toNat + 2 * (h.getD released).toNat + (m.getD released).toNat))))
    ∧ (∀ (m h : Option Bool) (k : Nat),
        decoded [.cycles true m h k] = List.replicate k (.ok (.reset (h.getD released) (m.getD released)))
        ∧ decoded [.cycles false m h k] = List.replicate k (.ok (.run (h.getD released) (m.getD released))))
    ∧ (∀ k : Nat,
        decoded [.idle k] = List.replicate k (.ok (.run released released))
        ∧ decoded [.holdM k] = List.replicate k (.ok (.run released pressed))
        ∧ decoded [.holdH k] = List.replicate k (.ok (.run pressed released)))
    ∧ decoded [.tapM] = [.ok (.run released pressed), .ok (.run released released)]
    ∧ decoded [.tapH] = [.ok (.run pressed released), .ok (.run released released)]

/-! ## Steps and runs -/

/-- A step runs the instruction that the code of its queued request decodes to, on the state with that request taken
(log 7). -/
def Obligations.StepRunsDecodedInstruction : Prop :=
  ∀ (c : Request) (rest : List Request) (i : Instr) (s : State), s.inputs = c :: rest → decode c.code = .ok i →
    step s = exec i { s with inputs := rest }

/-- With no word queued a step runs a free `CYC` word, whichever it is (00 R16; log 7). -/
def Obligations.StepRunsFreeCycWord : Prop :=
  ∀ s : State, s.inputs = [] → step s = exec (cycInstr (Config.freeCyc s.draws)) { s with draws := s.draws + 1 }

/-- A table word placed for the next step is the instruction the next step runs (log 1, log 7). -/
def Obligations.FetchWordIsRunNext : Prop :=
  ∀ (nbits w : Nat) (i : Instr) (s : State), decodeTableWord nbits w = some i →
    step (s.withFetchWord nbits w) = exec i s

/-- 46 R152: with a `CYC` word c, the step is the zero state where c[2] is 1 and the RUN cycle of c[1], c[0] where it
is 0. -/
def Obligations.StepIsResetOrRun : Prop :=
  ∀ (c : BitVec 3) (rest : List Request) (s : State), s.inputs = .cyc c :: rest →
    (c.getLsbD 2 = true → ∃ t, step s = .next t ∧ t.AtZero ∧ t.inputs = rest)
    ∧ (c.getLsbD 2 = false → s.Inv →
        step s = .next (runStep (c.getLsbD 1) (c.getLsbD 0) { s with inputs := rest }))

/-- 10 R27: no step changes a build-time parameter. That State holds them, as a field, is the model's own (log 3). -/
def Obligations.StepKeepsParameters : Prop :=
  ∀ s t : State, step s = .next t → t.params = s.params

/-- 20 R48 and log 5: the record of the wires decides nothing: neither the registers after a step nor a refusal. -/
def Obligations.WiresRecordIsNeverRead : Prop :=
  ∀ (s : State) (w : Wires),
    (∀ t, step s = .next t →
      ∃ u, step { s with wires := w } = .next u ∧ SameRegisters t u ∧ SameEnvironment t u)
    ∧ (∀ r, step s = .refused r → step { s with wires := w } = .refused r)

/-- 10 R33: every step from a state in the ranges leads to a state in the ranges. -/
def Obligations.StepKeepsInvariant : Prop :=
  ∀ s t : State, s.Inv → step s = .next t → t.Inv

/-- 30 R65: nothing outside drives the event word. A step that answers a next state zeroes every register, or writes no
register, or moves the time of day by the Time Core row of the block's own wires. -/
def Obligations.EventsComeFromOwnWires : Prop :=
  ∀ s t : State, step s = .next t →
    t.AtZero ∨ SameRegisters s t
      ∨ ∃ u, exec (evtInstr (evtWord s)) s = .next u ∧ t.sec = u.sec ∧ t.min = u.min ∧ t.hr = u.hr
          ∧ t.wires.tick = u.wires.tick ∧ t.wires.incMinutes = u.wires.incMinutes
          ∧ t.wires.incHours = u.wires.incHours ∧ t.wires.cS = u.wires.cS ∧ t.wires.cM = u.wires.cM

/-- 30 R65: with P = 1 every cycle's event word has its tick bit set; every event word, with P = 1 every one that has
it, is the event word of a cycle that RUN cycles lead to from the zero state. -/
def Obligations.EventWordsThatOccur : Prop :=
  (∀ s : State, s.Inv → s.params.tickPeriod = 1 → (evtWord s).getLsbD 0 = true)
  ∧ ∀ (w : BitVec 3) (s : State), s.params.wf = true → s.AtZero →
    (s.params.tickPeriod = 1 → w.getLsbD 0 = true) →
    ∃ levels t, runCycles levels s = .next t ∧ evtWord t = w

/-- 46 R153, 43 R112: no run ends: from a state in the ranges, whatever the requests to come and whatever the free words,
any number of steps is taken and stays in the ranges. -/
def Obligations.NoRunEnds : Prop :=
  ∀ (n : Nat) (s : State), s.Inv → ∃ t, Host.Core.run Sys2Proof.core n s = .next t ∧ t.Inv

/-- 10 R34: after n RUN cycles from the zero state, whatever the buttons do. -/
def Obligations.CountersClosedForm : Prop :=
  ∀ (levels : List (Bool × Bool)) (s : State), s.params.wf = true → s.AtZero →
    ∃ t, runCycles levels s = .next t
      ∧ t.tickCnt = levels.length % s.params.tickPeriod
      ∧ t.sec.toNat = (levels.length / s.params.tickPeriod) % 60
      ∧ t.refCnt = levels.length % s.params.refreshDiv
      ∧ t.digitIdx.toNat = (levels.length / s.params.refreshDiv) % 6

/-- 42 R93: after n RUN cycles from the zero state, the flops are the last three pressed levels, and the pulse of that
cycle is p(n-2) and not p(n-3). -/
def Obligations.EdgeDetectorClosedForm : Prop :=
  ∀ (levels : List (Bool × Bool)) (s : State), s.params.wf = true → s.AtZero →
    ∃ t, runCycles levels s = .next t
      ∧ (let p := (levels.map fun l => l.2 ^^ s.params.btnActiveLow).reverse
         t.btnM = ⟨p.getD 0 false, p.getD 1 false, p.getD 2 false⟩
           ∧ pulse t.btnM = (p.getD 1 false && !(p.getD 2 false)))
      ∧ (let p := (levels.map fun l => l.1 ^^ s.params.btnActiveLow).reverse
         t.btnH = ⟨p.getD 0 false, p.getD 1 false, p.getD 2 false⟩
           ∧ pulse t.btnH = (p.getD 1 false && !(p.getD 2 false)))

/-- 41 R82: the tick is 1 exactly in the RUN cycles n with n mod P = P-1 (read in the model's record, log 5). -/
def Obligations.TickTrain : Prop :=
  ∀ (levels : List (Bool × Bool)) (l : Bool × Bool) (s : State), s.params.wf = true → s.AtZero →
    ∃ t, runCycles (levels ++ [l]) s = .next t
      ∧ (t.wires.tick = true ↔ levels.length % s.params.tickPeriod = s.params.tickPeriod - 1)

/-- 45 R133, R142: in RUN cycle n from the zero state, position (n / N) mod 6 is selected and shows the digit that the
time at the start of the cycle gives it. -/
def Obligations.DisplayScansRoundRobin : Prop :=
  ∀ (levels : List (Bool × Bool)) (l : Bool × Bool) (s : State), s.params.wf = true → s.AtZero →
    ∃ u t, runCycles levels s = .next u ∧ runCycles (levels ++ [l]) s = .next t
      ∧ (let i := (levels.length / s.params.refreshDiv) % 6
         t.wires.csOut = polar (BitVec.ofNat 6 (2 ^ i)) s.params.csActiveLow
           ∧ t.wires.segOut = polar (segTab (digitAt (bcdDigits u) (BitVec.ofNat 3 i))) s.params.segActiveLow)

/-- 70 R182: a button held through reset release gives its pulse in RUN cycle 2, and its field is 1 from cycle 3. -/
def Obligations.ButtonHeldThroughReset : Prop :=
  (∀ (h₀ h₁ h₂ h₃ : Bool) (s : State), s.params.wf = true →
    s.inputs = cycWord true h₀ (pressedRaw s.params) ::
      runWords [(h₁, pressedRaw s.params), (h₂, pressedRaw s.params), (h₃, pressedRaw s.params)] →
    ∃ t u, Host.Core.run Sys2Proof.core 3 s = .next t ∧ pulse t.btnM = true ∧ t.min = 0
      ∧ Host.Core.run Sys2Proof.core 4 s = .next u ∧ u.min = 1)
  ∧ (∀ (m₀ m₁ m₂ m₃ : Bool) (s : State), s.params.wf = true →
    s.inputs = cycWord true (pressedRaw s.params) m₀ ::
      runWords [(pressedRaw s.params, m₁), (pressedRaw s.params, m₂), (pressedRaw s.params, m₃)] →
    ∃ t u, Host.Core.run Sys2Proof.core 3 s = .next t ∧ pulse t.btnH = true ∧ t.hr = 0
      ∧ Host.Core.run Sys2Proof.core 4 s = .next u ∧ u.hr = 1)

/-- 30 R73 with 42 R93: a tap from cleared flops gives one pulse of its button, two cycles after it starts, on either
polarity: `TAP_M` for M, `TAP_H` for H. -/
def Obligations.TapGivesOnePulse : Prop :=
  (∀ (k n : Nat) (s : State), s.Inv → s.btnM = ⟨false, false, false⟩ → n ≤ k + 2 →
    ∃ t, Host.Core.run Sys2Proof.core n (s.load [.tapM, .idle k]) = .next t ∧ (pulse t.btnM = true ↔ n = 2))
  ∧ (∀ (k n : Nat) (s : State), s.Inv → s.btnH = ⟨false, false, false⟩ → n ≤ k + 2 →
    ∃ t, Host.Core.run Sys2Proof.core n (s.load [.tapH, .idle k]) = .next t ∧ (pulse t.btnH = true ↔ n = 2))

/-- 41 R83 and 45 R134 (decisions D2, D3; F and R are open, log 4): the period and the divisor at reset; at 1 Hz the
period is F itself. -/
def Obligations.ParametersFromFrequencies : Prop :=
  State.reset.params.tickPeriod = Nat.max 1 (Config.roundHalfUp Config.sysClkHz Config.tickHz)
    ∧ State.reset.params.tickPeriod = Config.sysClkHz
    ∧ State.reset.params.refreshDiv = Nat.max 1 (Config.sysClkHz / (6 * Config.refreshHz))
end

