-- ==== Sys2Proof/Laws/State.lean ====
section
/-! SUPPORT. One lemma per field of `State` per update, so that no proof unfolds an update. -/

namespace Sys2Proof.Machine

@[simp] theorem zeroState_tickCnt (s : State) : (zeroState s).tickCnt = 0 := rfl
@[simp] theorem zeroState_btnM (s : State) : (zeroState s).btnM = ⟨false, false, false⟩ := rfl
@[simp] theorem zeroState_btnH (s : State) : (zeroState s).btnH = ⟨false, false, false⟩ := rfl
@[simp] theorem zeroState_sec (s : State) : (zeroState s).sec = 0 := rfl
@[simp] theorem zeroState_min (s : State) : (zeroState s).min = 0 := rfl
@[simp] theorem zeroState_hr (s : State) : (zeroState s).hr = 0 := rfl
@[simp] theorem zeroState_refCnt (s : State) : (zeroState s).refCnt = 0 := rfl
@[simp] theorem zeroState_digitIdx (s : State) : (zeroState s).digitIdx = 0 := rfl
@[simp] theorem zeroState_params (s : State) : (zeroState s).params = s.params := rfl
@[simp] theorem zeroState_wires (s : State) : (zeroState s).wires = s.wires := rfl
@[simp] theorem zeroState_inputs (s : State) : (zeroState s).inputs = s.inputs := rfl
@[simp] theorem zeroState_draws (s : State) : (zeroState s).draws = s.draws := rfl

@[simp] theorem runStep_tickCnt (h m : Bool) (s : State) :
    (runStep h m s).tickCnt = dividerNext (tickWire s) s.tickCnt := rfl
@[simp] theorem runStep_btnM (h m : Bool) (s : State) :
    (runStep h m s).btnM = edgeNext s.btnM (pressedLevel s m) := rfl
@[simp] theorem runStep_btnH (h m : Bool) (s : State) :
    (runStep h m s).btnH = edgeNext s.btnH (pressedLevel s h) := rfl
@[simp] theorem runStep_sec (h m : Bool) (s : State) :
    (runStep h m s).sec = (cycleWires s).sNext := rfl
@[simp] theorem runStep_min (h m : Bool) (s : State) :
    (runStep h m s).min = (cycleWires s).mNext := rfl
@[simp] theorem runStep_hr (h m : Bool) (s : State) :
    (runStep h m s).hr = (cycleWires s).hNext := rfl
@[simp] theorem runStep_refCnt (h m : Bool) (s : State) :
    (runStep h m s).refCnt = dividerNext (refAdvWire s) s.refCnt := rfl
@[simp] theorem runStep_digitIdx (h m : Bool) (s : State) :
    (runStep h m s).digitIdx = indexNext (refAdvWire s) s.digitIdx := rfl
@[simp] theorem runStep_params (h m : Bool) (s : State) :
    (runStep h m s).params = s.params := rfl
@[simp] theorem runStep_wires (h m : Bool) (s : State) :
    (runStep h m s).wires = cycleWires s := rfl
@[simp] theorem runStep_inputs (h m : Bool) (s : State) :
    (runStep h m s).inputs = s.inputs := rfl
@[simp] theorem runStep_draws (h m : Bool) (s : State) :
    (runStep h m s).draws = s.draws := rfl

section
variable (s : State) (t m h cS cM : Bool) (x y z : Field6)

@[simp] theorem writeTime_tickCnt : (writeTime s t m h cS cM x y z).tickCnt = s.tickCnt := rfl
@[simp] theorem writeTime_btnM : (writeTime s t m h cS cM x y z).btnM = s.btnM := rfl
@[simp] theorem writeTime_btnH : (writeTime s t m h cS cM x y z).btnH = s.btnH := rfl
@[simp] theorem writeTime_sec : (writeTime s t m h cS cM x y z).sec = x := rfl
@[simp] theorem writeTime_min : (writeTime s t m h cS cM x y z).min = y := rfl
@[simp] theorem writeTime_hr : (writeTime s t m h cS cM x y z).hr = z := rfl
@[simp] theorem writeTime_refCnt : (writeTime s t m h cS cM x y z).refCnt = s.refCnt := rfl
@[simp] theorem writeTime_digitIdx : (writeTime s t m h cS cM x y z).digitIdx = s.digitIdx := rfl
@[simp] theorem writeTime_params : (writeTime s t m h cS cM x y z).params = s.params := rfl
@[simp] theorem writeTime_inputs : (writeTime s t m h cS cM x y z).inputs = s.inputs := rfl
@[simp] theorem writeTime_draws : (writeTime s t m h cS cM x y z).draws = s.draws := rfl
@[simp] theorem writeTime_wires_tick : (writeTime s t m h cS cM x y z).wires.tick = t := rfl
@[simp] theorem writeTime_wires_incMinutes : (writeTime s t m h cS cM x y z).wires.incMinutes = m := rfl
@[simp] theorem writeTime_wires_incHours : (writeTime s t m h cS cM x y z).wires.incHours = h := rfl
@[simp] theorem writeTime_wires_cS : (writeTime s t m h cS cM x y z).wires.cS = cS := rfl
@[simp] theorem writeTime_wires_cM : (writeTime s t m h cS cM x y z).wires.cM = cM := rfl
@[simp] theorem writeTime_wires_sNext : (writeTime s t m h cS cM x y z).wires.sNext = x := rfl
@[simp] theorem writeTime_wires_mNext : (writeTime s t m h cS cM x y z).wires.mNext = y := rfl
@[simp] theorem writeTime_wires_hNext : (writeTime s t m h cS cM x y z).wires.hNext = z := rfl
@[simp] theorem writeTime_wires_values : (writeTime s t m h cS cM x y z).wires.values = s.wires.values := rfl
@[simp] theorem writeTime_wires_refAdv : (writeTime s t m h cS cM x y z).wires.refAdv = s.wires.refAdv := rfl
@[simp] theorem writeTime_wires_curDigit : (writeTime s t m h cS cM x y z).wires.curDigit = s.wires.curDigit := rfl
@[simp] theorem writeTime_wires_segLogic : (writeTime s t m h cS cM x y z).wires.segLogic = s.wires.segLogic := rfl
@[simp] theorem writeTime_wires_csLogic : (writeTime s t m h cS cM x y z).wires.csLogic = s.wires.csLogic := rfl
@[simp] theorem writeTime_wires_segOut : (writeTime s t m h cS cM x y z).wires.segOut = s.wires.segOut := rfl
@[simp] theorem writeTime_wires_csOut : (writeTime s t m h cS cM x y z).wires.csOut = s.wires.csOut := rfl

end

@[simp] theorem takeInput_tickCnt (s : State) : (takeInput s).tickCnt = s.tickCnt := by
  unfold takeInput; split <;> rfl
@[simp] theorem takeInput_btnM (s : State) : (takeInput s).btnM = s.btnM := by
  unfold takeInput; split <;> rfl
@[simp] theorem takeInput_btnH (s : State) : (takeInput s).btnH = s.btnH := by
  unfold takeInput; split <;> rfl
@[simp] theorem takeInput_sec (s : State) : (takeInput s).sec = s.sec := by
  unfold takeInput; split <;> rfl
@[simp] theorem takeInput_min (s : State) : (takeInput s).min = s.min := by
  unfold takeInput; split <;> rfl
@[simp] theorem takeInput_hr (s : State) : (takeInput s).hr = s.hr := by
  unfold takeInput; split <;> rfl
@[simp] theorem takeInput_refCnt (s : State) : (takeInput s).refCnt = s.refCnt := by
  unfold takeInput; split <;> rfl
@[simp] theorem takeInput_digitIdx (s : State) : (takeInput s).digitIdx = s.digitIdx := by
  unfold takeInput; split <;> rfl
@[simp] theorem takeInput_params (s : State) : (takeInput s).params = s.params := by
  unfold takeInput; split <;> rfl
@[simp] theorem takeInput_wires (s : State) : (takeInput s).wires = s.wires := by
  unfold takeInput; split <;> rfl

theorem nextRequest_cons {s : State} {r : Request} {rest : List Request} (hs : s.inputs = r :: rest) :
    nextRequest s = r := by
  simp [nextRequest, hs]

theorem takeInput_cons {s : State} {r : Request} {rest : List Request} (hs : s.inputs = r :: rest) :
    takeInput s = { s with inputs := rest } := by
  unfold takeInput; split <;> simp_all

theorem nextRequest_nil {s : State} (hs : s.inputs = []) : nextRequest s = .cyc (Config.freeCyc s.draws) := by
  simp [nextRequest, hs]

theorem takeInput_nil {s : State} (hs : s.inputs = []) : takeInput s = { s with draws := s.draws + 1 } := by
  unfold takeInput; split <;> simp_all

@[simp] theorem load_tickCnt (s : State) (p : List Stmt) : (s.load p).tickCnt = s.tickCnt := rfl
@[simp] theorem load_btnM (s : State) (p : List Stmt) : (s.load p).btnM = s.btnM := rfl
@[simp] theorem load_btnH (s : State) (p : List Stmt) : (s.load p).btnH = s.btnH := rfl
@[simp] theorem load_sec (s : State) (p : List Stmt) : (s.load p).sec = s.sec := rfl
@[simp] theorem load_min (s : State) (p : List Stmt) : (s.load p).min = s.min := rfl
@[simp] theorem load_hr (s : State) (p : List Stmt) : (s.load p).hr = s.hr := rfl
@[simp] theorem load_refCnt (s : State) (p : List Stmt) : (s.load p).refCnt = s.refCnt := rfl
@[simp] theorem load_digitIdx (s : State) (p : List Stmt) : (s.load p).digitIdx = s.digitIdx := rfl
@[simp] theorem load_params (s : State) (p : List Stmt) : (s.load p).params = s.params := rfl
@[simp] theorem load_wires (s : State) (p : List Stmt) : (s.load p).wires = s.wires := rfl
@[simp] theorem load_draws (s : State) (p : List Stmt) : (s.load p).draws = s.draws := rfl
@[simp] theorem load_inputs (s : State) (p : List Stmt) : (s.load p).inputs = programWords s.params p := rfl

@[simp] theorem withFetchWord_tickCnt (s : State) (n w : Nat) : (s.withFetchWord n w).tickCnt = s.tickCnt := by
  unfold State.withFetchWord; split <;> rfl
@[simp] theorem withFetchWord_btnM (s : State) (n w : Nat) : (s.withFetchWord n w).btnM = s.btnM := by
  unfold State.withFetchWord; split <;> rfl
@[simp] theorem withFetchWord_btnH (s : State) (n w : Nat) : (s.withFetchWord n w).btnH = s.btnH := by
  unfold State.withFetchWord; split <;> rfl
@[simp] theorem withFetchWord_sec (s : State) (n w : Nat) : (s.withFetchWord n w).sec = s.sec := by
  unfold State.withFetchWord; split <;> rfl
@[simp] theorem withFetchWord_min (s : State) (n w : Nat) : (s.withFetchWord n w).min = s.min := by
  unfold State.withFetchWord; split <;> rfl
@[simp] theorem withFetchWord_hr (s : State) (n w : Nat) : (s.withFetchWord n w).hr = s.hr := by
  unfold State.withFetchWord; split <;> rfl
@[simp] theorem withFetchWord_refCnt (s : State) (n w : Nat) : (s.withFetchWord n w).refCnt = s.refCnt := by
  unfold State.withFetchWord; split <;> rfl
@[simp] theorem withFetchWord_digitIdx (s : State) (n w : Nat) : (s.withFetchWord n w).digitIdx = s.digitIdx := by
  unfold State.withFetchWord; split <;> rfl
@[simp] theorem withFetchWord_params (s : State) (n w : Nat) : (s.withFetchWord n w).params = s.params := by
  unfold State.withFetchWord; split <;> rfl
@[simp] theorem withFetchWord_wires (s : State) (n w : Nat) : (s.withFetchWord n w).wires = s.wires := by
  unfold State.withFetchWord; split <;> rfl
@[simp] theorem withFetchWord_draws (s : State) (n w : Nat) : (s.withFetchWord n w).draws = s.draws := by
  unfold State.withFetchWord; split <;> rfl

end Sys2Proof.Machine
end

