-- ==== Sys2Proof/Laws/Ops.lean ====
section
/-! SUPPORT. What each shared operation can do, said once. -/

namespace Sys2Proof

theorem Params.wf_iff (p : Params) :
    p.wf = true ↔ 0 < p.tickPeriod ∧ 2 ≤ p.hourMod ∧ p.hourMod ≤ 60 ∧ 0 < p.refreshDiv := by
  simp [Params.wf, Nat.pos_iff_ne_zero, and_assoc]

/-- The eight codes of a 3-bit format, to be taken one by one. -/
theorem Laws.bv3_cases (w : BitVec 3) :
    w = 0#3 ∨ w = 1#3 ∨ w = 2#3 ∨ w = 3#3 ∨ w = 4#3 ∨ w = 5#3 ∨ w = 6#3 ∨ w = 7#3 := by
  revert w; decide

/-- The sixteen codes of a 4-bit format. -/
theorem Laws.bv4_cases (w : BitVec 4) :
    w = 0#4 ∨ w = 1#4 ∨ w = 2#4 ∨ w = 3#4 ∨ w = 4#4 ∨ w = 5#4 ∨ w = 6#4 ∨ w = 7#4
      ∨ w = 8#4 ∨ w = 9#4 ∨ w = 10#4 ∨ w = 11#4 ∨ w = 12#4 ∨ w = 13#4 ∨ w = 14#4 ∨ w = 15#4 := by
  revert w; decide

/-- The decoder reads from a request's code the row the step runs. -/
theorem decode_request (r : Request) : decode r.code = .ok (requestInstr r) := by
  cases r with
  | cyc w => revert w; decide
  | dig d => revert d; decide
  | idx i => revert i; decide

/-- Only a request's own code makes it. -/
theorem codeRequest_code (r : Request) : codeRequest r.code = some r := by
  cases r with
  | cyc w => revert w; decide
  | dig d => revert d; decide
  | idx i => revert i; decide

/-- No request carries an event word (30 R65). -/
theorem request_not_evt (r : Request) : r.code.fmt ≠ .evt := by
  cases r <;> exact fun h => nomatch h

/-- The period is the maximum of 41 R83. -/
theorem Laws.tickPeriod_eq_max :
    Config.tickPeriod = Nat.max 1 (Config.roundHalfUp Config.sysClkHz Config.tickHz) := by
  have := Nat.le_total 1 (Config.roundHalfUp Config.sysClkHz Config.tickHz)
  simp only [Config.tickPeriod, Nat.max_def]
  split <;> omega

/-- The refresh divisor is the maximum of 45 R134. -/
theorem Laws.refreshDiv_eq_max :
    Config.refreshDiv = Nat.max 1 (Config.sysClkHz / (6 * Config.refreshHz)) := by
  simp only [Config.refreshDiv, Nat.max_def]
  split <;> omega

namespace Machine

theorem timeInRange_iff (s : State) :
    s.timeInRange = true ↔ s.sec.toNat < 60 ∧ s.min.toNat < 60 ∧ s.hr.toNat < s.params.hourMod := by
  simp [State.timeInRange, and_assoc]

/-- 10 R33, register by register. -/
theorem inRange_iff (s : State) :
    s.inRange = true ↔ s.tickCnt < s.params.tickPeriod ∧ s.timeInRange = true ∧ s.refCnt < s.params.refreshDiv
      ∧ s.digitIdx.toNat < 6 := by
  simp [State.inRange, and_assoc]

theorem State.Inv.timeInv {s : State} (hs : s.Inv) : s.TimeInv :=
  ⟨hs.1, ((inRange_iff s).1 hs.2).2.1⟩

/-- `wrapInc` at most once: below the modulus the sum, else the sum less the modulus (00 R13). -/
theorem wrapInc_fst {x d M : Nat} (hx : x < M) (hd : d ≤ M) :
    (wrapInc x d M).1 = if x + d < M then x + d else x + d - M := by
  unfold wrapInc
  split
  · exact Nat.mod_eq_of_lt ‹_›
  · rw [Nat.mod_eq_sub_mod (by omega), Nat.mod_eq_of_lt (by omega)]

theorem wrapInc_snd (x d M : Nat) : (wrapInc x d M).2 = decide (M ≤ x + d) := rfl

theorem wrapInc_fst_lt (x d : Nat) {M : Nat} (hM : 0 < M) : (wrapInc x d M).1 < M :=
  Nat.mod_lt _ hM

/-- The value and the carry together lose nothing. -/
theorem wrapInc_total {x d M : Nat} (hx : x < M) (hd : d ≤ M) :
    (wrapInc x d M).1 + M * (wrapInc x d M).2.toNat = x + d := by
  rw [wrapInc_fst hx hd, wrapInc_snd]
  by_cases h : x + d < M
  · simp [h, Nat.not_le.2 h]
  · simp [h, Nat.not_lt.1 h]

theorem dividerNext_lt {last : Bool} {cnt P : Nat} (hc : cnt < P) (hl : last = decide (cnt = P - 1)) :
    dividerNext last cnt < P := by
  unfold dividerNext
  split
  · omega
  · simp_all; omega

theorem indexNext_lt (adv : Bool) {i : Index} (hi : i.toNat < 6) : (indexNext adv i).toNat < 6 := by
  revert hi; revert i; cases adv <;> decide

/-- The decoder's pattern of a digit code is the table of 45 R138. -/
theorem segTab_eq_glyph (d : Digit) : segTab d = glyph d := by
  revert d; decide

/-- 45 R139: the segment port is the pattern, or its complement where the segments are active-low. -/
theorem segPort_eq (s : State) (p : Segments) : segPort s p = if s.params.segActiveLow then ~~~p else p := by
  unfold segPort
  cases s.params.segActiveLow <;> revert p <;> decide

/-- What every chip-select row does (45 R136-R140). -/
theorem exec_idxInstr (i : Index) (s : State) :
    exec (idxInstr i) s = driveSelect s (onehot6 i) (digitAt (bcdDigits s) i) := by
  rcases Laws.bv3_cases i with h | h | h | h | h | h | h | h <;> subst h <;> rfl

/-- What every segment row does (45 R138, R139). -/
theorem exec_digInstr (d : Digit) (s : State) : exec (digInstr d) s = driveSegments s d (segTab d) := by
  rcases Laws.bv4_cases d with h | h | h | h | h | h | h | h | h | h | h | h | h | h | h | h <;> subst h <;> rfl

/-- RUN answers a next state exactly where 10 R33 holds and the parameters are admitted. -/
theorem execRun_of_inv {s : State} (hs : s.Inv) (h m : Bool) : execRun h m s = .next (runStep h m s) := by
  simp [execRun, hs.1, hs.2]

theorem execRun_next {h m : Bool} {s t : State} (he : execRun h m s = .next t) : s.Inv ∧ t = runStep h m s := by
  unfold execRun at he
  split at he
  · cases he
  · split at he
    · cases he
    · cases he; simp_all [State.Inv]

theorem timeCoreRow_of_inv {s : State} (hs : s.TimeInv) (r : State) : timeCoreRow s r = .next r := by
  simp [timeCoreRow, hs.1, hs.2]

theorem timeCoreRow_next {s r t : State} (he : timeCoreRow s r = .next t) : s.TimeInv ∧ t = r := by
  unfold timeCoreRow at he
  split at he
  · cases he
  · split at he
    · cases he
    · cases he; simp_all [State.TimeInv]

/-- A queued request is executed with the request taken. -/
theorem step_cons {s : State} {r : Request} {rest : List Request} (hs : s.inputs = r :: rest) :
    step s = exec (requestInstr r) { s with inputs := rest } := by
  simp only [step, nextRequest_cons hs, takeInput_cons hs]

/-- A queued request whose code decodes is executed as what it decodes to. -/
theorem step_of_decode {s : State} {r : Request} {rest : List Request} {i : Instr}
    (hs : s.inputs = r :: rest) (hd : decode r.code = .ok i) : step s = exec i { s with inputs := rest } := by
  rw [decode_request, Except.ok.injEq] at hd
  rw [step_cons hs, hd]

/-- A run of one step more starts with the step. -/
theorem run_succ_of_next {n : Nat} {s t : State} (he : step s = .next t) :
    Host.Core.run Sys2Proof.core (n + 1) s = Host.Core.run Sys2Proof.core n t := by
  have hc : Sys2Proof.core.step s = .next t := he
  simp only [Host.Core.run, hc]

end Machine

end Sys2Proof
end

