-- ==== Sys2Proof/Laws/PerInstr.lean ====
section
/-! SUPPORT. Statements per instruction, about the instruction as syntax. Family `EncodeFits`: the code word of an
instruction has no bit above its format's width. -/

namespace Sys2Proof

def Laws.EncodeFits.Statement (i : Instr) : Prop :=
  (encode i).wf = true

theorem Laws.EncodeFits.reset (h m : Bool) : Laws.EncodeFits.Statement (.reset h m) := by
  cases h <;> cases m <;> rfl

theorem Laws.EncodeFits.run (h m : Bool) : Laws.EncodeFits.Statement (.run h m) := by
  cases h <;> cases m <;> rfl

theorem Laws.EncodeFits.coreIdle : Laws.EncodeFits.Statement .coreIdle := rfl

theorem Laws.EncodeFits.coreT : Laws.EncodeFits.Statement .coreT := rfl

theorem Laws.EncodeFits.coreM : Laws.EncodeFits.Statement .coreM := rfl

theorem Laws.EncodeFits.coreTM : Laws.EncodeFits.Statement .coreTM := rfl

theorem Laws.EncodeFits.coreH : Laws.EncodeFits.Statement .coreH := rfl

theorem Laws.EncodeFits.coreTH : Laws.EncodeFits.Statement .coreTH := rfl

theorem Laws.EncodeFits.coreMH : Laws.EncodeFits.Statement .coreMH := rfl

theorem Laws.EncodeFits.coreTMH : Laws.EncodeFits.Statement .coreTMH := rfl

theorem Laws.EncodeFits.seg0 : Laws.EncodeFits.Statement .seg0 := rfl

theorem Laws.EncodeFits.seg1 : Laws.EncodeFits.Statement .seg1 := rfl

theorem Laws.EncodeFits.seg2 : Laws.EncodeFits.Statement .seg2 := rfl

theorem Laws.EncodeFits.seg3 : Laws.EncodeFits.Statement .seg3 := rfl

theorem Laws.EncodeFits.seg4 : Laws.EncodeFits.Statement .seg4 := rfl

theorem Laws.EncodeFits.seg5 : Laws.EncodeFits.Statement .seg5 := rfl

theorem Laws.EncodeFits.seg6 : Laws.EncodeFits.Statement .seg6 := rfl

theorem Laws.EncodeFits.seg7 : Laws.EncodeFits.Statement .seg7 := rfl

theorem Laws.EncodeFits.seg8 : Laws.EncodeFits.Statement .seg8 := rfl

theorem Laws.EncodeFits.seg9 : Laws.EncodeFits.Statement .seg9 := rfl

theorem Laws.EncodeFits.segRsv10 : Laws.EncodeFits.Statement .segRsv10 := rfl

theorem Laws.EncodeFits.segRsv11 : Laws.EncodeFits.Statement .segRsv11 := rfl

theorem Laws.EncodeFits.segRsv12 : Laws.EncodeFits.Statement .segRsv12 := rfl

theorem Laws.EncodeFits.segRsv13 : Laws.EncodeFits.Statement .segRsv13 := rfl

theorem Laws.EncodeFits.segRsv14 : Laws.EncodeFits.Statement .segRsv14 := rfl

theorem Laws.EncodeFits.segRsv15 : Laws.EncodeFits.Statement .segRsv15 := rfl

theorem Laws.EncodeFits.cs0 : Laws.EncodeFits.Statement .cs0 := rfl

theorem Laws.EncodeFits.cs1 : Laws.EncodeFits.Statement .cs1 := rfl

theorem Laws.EncodeFits.cs2 : Laws.EncodeFits.Statement .cs2 := rfl

theorem Laws.EncodeFits.cs3 : Laws.EncodeFits.Statement .cs3 := rfl

theorem Laws.EncodeFits.cs4 : Laws.EncodeFits.Statement .cs4 := rfl

theorem Laws.EncodeFits.cs5 : Laws.EncodeFits.Statement .cs5 := rfl

theorem Laws.EncodeFits.csRsv6 : Laws.EncodeFits.Statement .csRsv6 := rfl

theorem Laws.EncodeFits.csRsv7 : Laws.EncodeFits.Statement .csRsv7 := rfl

end Sys2Proof
end

