-- ==== Sys2Proof/Tests/Slice0.lean ====
section
/-! SUPPORT. The model's own tests, each on the spec's vectors (95_test_vectors.md, named in the comments), and a witness
for the hypotheses of every statement that has some. -/

namespace Sys2Proof.Tests

open Sys2Proof Sys2Proof.Machine

/-- Wires of no importance. -/
def noWires : Wires :=
  ⟨false, false, false, false, false, 0, 0, 0, ⟨0, 0, 0, 0, 0, 0⟩, false, 0, 0, 0, 0, 0⟩

/-- P, H, N with every polarity active-high. -/
def params (p h n : Nat) : Params := ⟨p, h, n, false, false, false⟩

/-- P, H, N with every polarity active-low. -/
def paramsLow (p h n : Nat) : Params := ⟨p, h, n, true, true, true⟩

/-- The zero state under given parameters. -/
def zero (p : Params) : State where
  tickCnt := 0
  btnM := ⟨false, false, false⟩
  btnH := ⟨false, false, false⟩
  sec := 0
  min := 0
  hr := 0
  refCnt := 0
  digitIdx := 0
  params := p
  wires := noWires
  inputs := []
  draws := 0

/-- The zero state at a time of day, H = 24. -/
def at24 (s m h : Field6) : State := { zero (params 3 24 2) with sec := s, min := m, hr := h }

/-- The start state of PROG3 (95 §3). -/
def prog3 : State :=
  { at24 59 59 23 with tickCnt := 2, refCnt := 1, digitIdx := 5, btnM := ⟨true, true, false⟩ }

/-- A register out of range (95 V-TOP-4). -/
def sec61 : State := { zero (params 3 24 2) with sec := 61 }

/-- What holds of the next state, where there is one. -/
def next? (o : Host.Outcome State Fault Refusal) (f : State → Bool) : Bool :=
  match o with
  | .next t => f t
  | _ => false

/-- The time fields. -/
def time (s : State) : Field6 × Field6 × Field6 := (s.sec, s.min, s.hr)

/-- The time fields after an instruction. -/
def timeAfter (i : Instr) (s : State) : Option (Field6 × Field6 × Field6) :=
  match exec i s with
  | .next t => some (time t)
  | _ => none

/-! ## Well-formedness: an ill-formed term for each check -/

theorem test_wf_cyc : CodeWord.wf ⟨.cyc, 7⟩ = true ∧ CodeWord.wf ⟨.cyc, 8⟩ = false := by decide
theorem test_wf_evt : CodeWord.wf ⟨.evt, 7⟩ = true ∧ CodeWord.wf ⟨.evt, 8⟩ = false := by decide
theorem test_wf_dig : CodeWord.wf ⟨.dig, 15⟩ = true ∧ CodeWord.wf ⟨.dig, 16⟩ = false := by decide
theorem test_wf_idx : CodeWord.wf ⟨.idx, 7⟩ = true ∧ CodeWord.wf ⟨.idx, 8⟩ = false := by decide
theorem test_wf_params : (params 1 2 1).wf = true ∧ (params 1 60 1).wf = true := by decide
theorem test_wf_period : (params 0 24 2).wf = false := by decide
theorem test_wf_hourMod : (params 3 1 2).wf = false ∧ (params 3 61 2).wf = false := by decide
theorem test_wf_refreshDiv : (params 3 24 0).wf = false := by decide

/-! ## Decoding: words written out from 30 R62, R64, R66, R67 -/

/-- 95 V-TOP-1. -/
theorem test_decode_cyc :
    decode ⟨.cyc, 0b000⟩ = .ok (.run false false) ∧ decode ⟨.cyc, 0b001⟩ = .ok (.run false true)
    ∧ decode ⟨.cyc, 0b010⟩ = .ok (.run true false) ∧ decode ⟨.cyc, 0b011⟩ = .ok (.run true true)
    ∧ decode ⟨.cyc, 0b100⟩ = .ok (.reset false false) ∧ decode ⟨.cyc, 0b101⟩ = .ok (.reset false true)
    ∧ decode ⟨.cyc, 0b110⟩ = .ok (.reset true false) ∧ decode ⟨.cyc, 0b111⟩ = .ok (.reset true true) := by decide

theorem test_decode_evt :
    decode ⟨.evt, 0b000⟩ = .ok .coreIdle
    ∧ decode ⟨.evt, 0b001⟩ = .ok .coreT
    ∧ decode ⟨.evt, 0b010⟩ = .ok .coreM
    ∧ decode ⟨.evt, 0b011⟩ = .ok .coreTM
    ∧ decode ⟨.evt, 0b100⟩ = .ok .coreH
    ∧ decode ⟨.evt, 0b101⟩ = .ok .coreTH
    ∧ decode ⟨.evt, 0b110⟩ = .ok .coreMH
    ∧ decode ⟨.evt, 0b111⟩ = .ok .coreTMH := by decide

theorem test_decode_dig :
    decode ⟨.dig, 0b0000⟩ = .ok .seg0
    ∧ decode ⟨.dig, 0b0001⟩ = .ok .seg1
    ∧ decode ⟨.dig, 0b0010⟩ = .ok .seg2
    ∧ decode ⟨.dig, 0b0011⟩ = .ok .seg3
    ∧ decode ⟨.dig, 0b0100⟩ = .ok .seg4
    ∧ decode ⟨.dig, 0b0101⟩ = .ok .seg5
    ∧ decode ⟨.dig, 0b0110⟩ = .ok .seg6
    ∧ decode ⟨.dig, 0b0111⟩ = .ok .seg7
    ∧ decode ⟨.dig, 0b1000⟩ = .ok .seg8
    ∧ decode ⟨.dig, 0b1001⟩ = .ok .seg9 := by decide

theorem test_decode_dig_reserved :
    decode ⟨.dig, 0b1010⟩ = .ok .segRsv10
    ∧ decode ⟨.dig, 0b1011⟩ = .ok .segRsv11
    ∧ decode ⟨.dig, 0b1100⟩ = .ok .segRsv12
    ∧ decode ⟨.dig, 0b1101⟩ = .ok .segRsv13
    ∧ decode ⟨.dig, 0b1110⟩ = .ok .segRsv14
    ∧ decode ⟨.dig, 0b1111⟩ = .ok .segRsv15 := by decide

theorem test_decode_idx :
    decode ⟨.idx, 0b000⟩ = .ok .cs0
    ∧ decode ⟨.idx, 0b001⟩ = .ok .cs1
    ∧ decode ⟨.idx, 0b010⟩ = .ok .cs2
    ∧ decode ⟨.idx, 0b011⟩ = .ok .cs3
    ∧ decode ⟨.idx, 0b100⟩ = .ok .cs4
    ∧ decode ⟨.idx, 0b101⟩ = .ok .cs5
    ∧ decode ⟨.idx, 0b110⟩ = .ok .csRsv6
    ∧ decode ⟨.idx, 0b111⟩ = .ok .csRsv7 := by decide

theorem test_decode_rejects :
    decode ⟨.cyc, 8⟩ = .error (.bitsAboveFormat .cyc 8) ∧ decode ⟨.dig, 16⟩ = .error (.bitsAboveFormat .dig 16) := by
  decide

theorem test_table_words :
    decodeTableWord 8 4 = some (.reset false false) ∧ decodeTableWord 8 0 = some (.run false false)
    ∧ decodeTableWord 8 9 = some .seg9 ∧ decodeTableWord 8 15 = some .segRsv15 ∧ decodeTableWord 8 16 = none
    ∧ decodeTableWord 8 256 = none := by decide

/-- The placed word runs first after reset, for every P and N. -/
theorem test_first_after_reset :
    next? (step (State.reset.withFetchWord 8 0)) (fun t => t.draws == 0 && t.inputs == []) = true
    ∧ next? (step (State.reset.withFetchWord 8 4)) (fun t => t.sec == 0) = true
    ∧ next? (step (State.reset.withFetchWord 8 9)) (fun t => t.wires.segOut == 0x6F) = true := by decide

/-! ## Whole cycles -/

/-- 95 V-TOP-2. -/
theorem test_run_vtop2 :
    next? (exec (.run false true) (zero (params 3 24 2))) (fun t => t.tickCnt == 1 && t.btnM == ⟨true, false, false⟩
      && t.btnH == ⟨false, false, false⟩ && time t == (0, 0, 0) && t.refCnt == 1 && t.digitIdx == 0) = true := by decide

/-- 95 PROG3: the only cycle, its outputs and its end state. -/
theorem test_run_prog3 :
    next? (exec (.run false true) prog3) (fun t => time t == (0, 1, 0) && t.tickCnt == 0 && t.btnM == ⟨true, true, true⟩
      && t.refCnt == 0 && t.digitIdx == 0 && t.wires.csOut == 0x20 && t.wires.segOut == 0x5B) = true := by decide

/-- 95 V-TOP-3, active-high and active-low, from a state outside the ranges. -/
theorem test_reset_vtop3 :
    next? (exec (.reset true true) { sec61 with hr := 11, digitIdx := 7, tickCnt := 9 }) (fun t => time t == (0, 0, 0)
      && t.tickCnt == 0 && t.digitIdx == 0 && t.wires.csOut == 0x01 && t.wires.segOut == 0x3F) = true
    ∧ next? (exec (.reset false false) (zero (paramsLow 3 24 2))) (fun t => t.wires.csOut == 0x3E
      && t.wires.segOut == 0xC0) = true := by decide

/-- 95 V-TOP-4. -/
theorem test_run_vtop4 : next? (exec (.run false false) sec61) (fun _ => true) = false := by decide

/-- 95 V-TICK-1, RUN cycles 1 and 2. -/
theorem test_tick_divider :
    next? (exec (.run false false) { zero (params 3 24 2) with tickCnt := 1 }) (fun t => t.tickCnt == 2 && t.sec == 0) = true
    ∧ next? (exec (.run false false) { zero (params 3 24 2) with tickCnt := 2 }) (fun t => t.tickCnt == 0 && t.sec == 1)
      = true := by decide

/-- 95 V-EDGE-1 and V-EDGE-3 on an active-low board: raw 0 is pressed. -/
theorem test_edge_active_low :
    next? (exec (.run true false) { zero (paramsLow 3 24 2) with btnM := ⟨true, false, false⟩ }) (fun t =>
      t.btnM == ⟨true, true, false⟩ && t.btnH == ⟨false, false, false⟩) = true := by decide

/-- 95 V-DISP-1, RUN cycles 1 and 11. -/
theorem test_display_index :
    next? (exec (.run false false) { zero (params 99 24 2) with refCnt := 1 }) (fun t => t.digitIdx == 1 && t.refCnt == 0)
      = true
    ∧ next? (exec (.run false false) { zero (params 99 24 2) with refCnt := 1, digitIdx := 5 }) (fun t =>
      t.digitIdx == 0 && t.wires.csOut == 0x20) = true := by decide

/-- 95 V-DISP-5: the time 13:07:45. -/
theorem test_display_values :
    bcdDigits (at24 45 7 13) = ⟨5, 4, 7, 0, 3, 1⟩
    ∧ [5, 4, 7, 0, 3, 1].map segTab = [0x6D, 0x66, 0x07, 0x3F, 0x4F, 0x06] := by decide

/-- 95 V-BCD, the single points. -/
theorem test_bcd :
    ([0, 9, 10, 23, 47, 59, 63].map fun v => (bcdTens v, bcdOnes v))
      = [(0, 0), (0, 9), (1, 0), (2, 3), (4, 7), (5, 9), (6, 3)] := by decide

/-! ## Time Core rows: 95 V-CORE, two vectors a row -/

theorem test_coreIdle_1 : timeAfter .coreIdle (at24 0 0 0) = some (0, 0, 0) := by decide
theorem test_coreIdle_2 : timeAfter .coreIdle (at24 12 34 5) = some (12, 34, 5) := by decide
theorem test_coreT_1 : timeAfter .coreT (at24 59 59 0) = some (0, 0, 1) := by decide
theorem test_coreT_2 : timeAfter .coreT (at24 59 59 23) = some (0, 0, 0) := by decide
theorem test_coreM_1 : timeAfter .coreM (at24 10 59 5) = some (10, 0, 6) := by decide
theorem test_coreM_2 : timeAfter .coreM (at24 0 59 23) = some (0, 0, 0) := by decide
theorem test_coreTM_1 : timeAfter .coreTM (at24 59 58 23) = some (0, 0, 0) := by decide
theorem test_coreTM_2 : timeAfter .coreTM (at24 59 59 23) = some (0, 1, 0) := by decide
theorem test_coreH_1 : timeAfter .coreH (at24 0 0 11) = some (0, 0, 12) := by decide
theorem test_coreH_2 : timeAfter .coreH (at24 10 20 23) = some (10, 20, 0) := by decide
theorem test_coreTH_1 : timeAfter .coreTH (at24 59 59 21) = some (0, 0, 23) := by decide
theorem test_coreTH_2 : timeAfter .coreTH (at24 59 59 23) = some (0, 0, 1) := by decide
theorem test_coreMH_1 : timeAfter .coreMH (at24 5 6 7) = some (5, 7, 8) := by decide
theorem test_coreMH_2 : timeAfter .coreMH (at24 59 59 23) = some (59, 0, 1) := by decide
theorem test_coreTMH_1 : timeAfter .coreTMH (at24 58 59 23) = some (59, 0, 1) := by decide
theorem test_coreTMH_2 : timeAfter .coreTMH (at24 59 59 23) = some (0, 1, 1) := by decide

/-- 95 V-CORE-H12. -/
theorem test_core_h12 :
    timeAfter .coreT { zero (params 3 12 2) with sec := 59, min := 59, hr := 11 } = some (0, 0, 0)
    ∧ timeAfter .coreH { zero (params 3 12 2) with hr := 11 } = some (0, 0, 0) := by decide

/-! ## Display rows: 95 V-DISP-3, V-DISP-4 -/

/-- The segment port after an instruction. -/
def segAfter (p : Params) (i : Instr) : Option Segments :=
  match exec i (zero p) with
  | .next t => some t.wires.segOut
  | _ => none

/-- The chip-select port and the digit code after an instruction, at 13:07:45. -/
def csAfter (p : Params) (i : Instr) : Option (Select × Digit) :=
  match exec i { at24 45 7 13 with params := p } with
  | .next t => some (t.wires.csOut, t.wires.curDigit)
  | _ => none

theorem test_segments_high : [.seg0, .seg1, .seg2, .seg3, .seg4, .seg5, .seg6, .seg7].map (segAfter (params 3 24 2))
    = [some 0x3F, some 0x06, some 0x5B, some 0x4F, some 0x66, some 0x6D, some 0x7D, some 0x07] := by decide

theorem test_segments_high_rest : [.seg8, .seg9, .segRsv10, .segRsv11, .segRsv12, .segRsv13, .segRsv14, .segRsv15].map (segAfter (params 3 24 2))
    = [some 0x7F, some 0x6F, some 0x00, some 0x00, some 0x00, some 0x00, some 0x00, some 0x00] := by decide

theorem test_segments_low : [.seg0, .seg1, .seg2, .seg3, .seg4, .seg5, .seg6, .seg7].map (segAfter (paramsLow 3 24 2))
    = [some 0xC0, some 0xF9, some 0xA4, some 0xB0, some 0x99, some 0x92, some 0x82, some 0xF8] := by decide

theorem test_segments_low_rest : [.seg8, .seg9, .segRsv10, .segRsv11, .segRsv12, .segRsv13, .segRsv14, .segRsv15].map (segAfter (paramsLow 3 24 2))
    = [some 0x80, some 0x90, some 0xFF, some 0xFF, some 0xFF, some 0xFF, some 0xFF, some 0xFF] := by decide

/-- 45 R137, R138 with 95 V-DISP-5, V-DISP-4: the pattern each row shows at 13:07:45, from blank buses. -/
theorem test_select_shows :
    ([.cs0, .cs1, .cs2, .cs3, .cs4, .cs5, .csRsv6, .csRsv7].map fun i =>
      next? (exec i (at24 45 7 13)) fun t => t.wires.segLogic == t.wires.segOut && t.wires.segOut ==
        [0x6D, 0x66, 0x07, 0x3F, 0x4F, 0x06, 0x00, 0x00].getD (encode i).bits.toNat 0xFF)
      = List.replicate 8 true := by decide

/-- 45 R138, R139: blank on a board whose segments are active-low, whatever the bus carried before. -/
theorem test_select_blank_low :
    next? (exec .csRsv6 { zero (paramsLow 3 24 2) with wires := { noWires with segLogic := 0x3F, segOut := 0xC0 } })
      (fun t => t.wires.segLogic == 0x00 && t.wires.segOut == 0xFF && t.wires.curDigit == 15) = true := by decide

theorem test_select_high : [.cs0, .cs1, .cs2, .cs3, .cs4, .cs5, .csRsv6, .csRsv7].map (csAfter (params 3 24 2))
    = [some (0x01, 5), some (0x02, 4), some (0x04, 7), some (0x08, 0), some (0x10, 3), some (0x20, 1), some (0x00, 15), some (0x00, 15)] := by decide

theorem test_select_low : [.cs0, .cs1, .cs2, .cs3, .cs4, .cs5, .csRsv6, .csRsv7].map (csAfter (paramsLow 3 24 2))
    = [some (0x3E, 5), some (0x3D, 4), some (0x3B, 7), some (0x37, 0), some (0x2F, 3), some (0x1F, 1), some (0x3F, 15), some (0x3F, 15)] := by decide

/-! ## Stimulus notation: 30 R72, R73 -/

theorem test_stimulus_words :
    (programWords (params 3 24 2) [.cycles false (some true) none 1, .cycles true none none 1]).map (·.code.bits) = [0b001, 0b100]
    ∧ (programWords (paramsLow 3 24 2) [.cycles true none none 1, .cycles false (some false) (some false) 1, .idle 2]).map
      (·.code.bits) = [0b111, 0b000, 0b011, 0b011] := by decide

theorem test_stimulus_taps :
    (programWords (params 3 24 2) [.tapM, .holdH 1]).map (·.code.bits) = [0b001, 0b000, 0b010]
    ∧ (programWords (paramsLow 3 24 2) [.tapH, .holdM 1]).map (·.code.bits) = [0b001, 0b011, 0b010] := by decide

/-- An event word makes no request (30 R65), nor does a byte above its format. -/
theorem test_requests :
    [codeRequest ⟨.evt, 0b011⟩, codeRequest ⟨.cyc, 8⟩, codeRequest ⟨.cyc, 6⟩, codeRequest ⟨.dig, 9⟩, codeRequest ⟨.idx, 6⟩]
      = [none, none, some (.cyc 6), some (.dig 9), some (.idx 6)] := by decide

/-- The program of 95 PROG2. -/
theorem test_parse_prog2 :
    parseProgram "RESET          ; CYC 0b100\nHOLD_M 4       ; = RUN m=1 x4\nIDLE 2".toList
      = some [.cycles true none none 1, .holdM 4, .idle 2] := by decide

/-- Lines of 95 PROG5 and PROG6. -/
theorem test_parse_fields :
    parseLine "RESET m=1 x2".toList = some [.cycles true (some true) none 2]
    ∧ parseLine "RUN m=0 h=0    ; CYC".toList = some [.cycles false (some false) (some false) 1]
    ∧ parseLine "; nothing".toList = some [] ∧ parseLine "JUMP 3".toList = none := by decide

/-! ## Witnesses: a state and operands that meet the hypotheses of each statement -/

theorem prog3_inv : prog3.Inv := ⟨by decide, by decide⟩

theorem zero_inv : (zero (params 3 24 2)).Inv := ⟨by decide, by decide⟩

theorem zero_atZero (p : Params) : (zero p).AtZero := ⟨rfl, rfl, rfl, rfl, rfl, rfl, rfl, rfl⟩

theorem witness_RunGivesAllTwelveRegisters : prog3.Inv := prog3_inv
theorem witness_RunStepsTickDivider : prog3.Inv := prog3_inv
theorem witness_RunShiftsEdgeDetectors : prog3.Inv := prog3_inv
theorem witness_RunStepsDigitIndex : prog3.Inv := prog3_inv
theorem witness_RunStepsRefreshDivider : prog3.Inv := prog3_inv
theorem witness_RunAdvancesTimeOfDay : prog3.Inv := prog3_inv
theorem witness_RunCarriesAreExact : prog3.Inv := prog3_inv
theorem witness_RunMatchesItsEventRow : prog3.Inv := prog3_inv
theorem witness_RunMatchesItsDisplayRows : prog3.Inv := prog3_inv
theorem witness_RunDrivesExactlyOneLine : prog3.Inv := prog3_inv
theorem witness_RunDigitsStandForFields : prog3.Inv := prog3_inv
theorem witness_RawLinesReachFirstStagesOnly : prog3.Inv := prog3_inv

/-- The other side of the wraps: counts below their last value. -/
theorem witness_RunStepsBelowLast : { prog3 with tickCnt := 1, refCnt := 0, digitIdx := 4 : State }.Inv :=
  ⟨by decide, by decide⟩

theorem witness_ResetForgetsStateAndLevels : prog3.params = (at24 0 0 0).params := rfl

theorem witness_ResetWordRecoversFromAnyState :
    { sec61 with inputs := cycWord true false true :: [] }.params.wf = true
      ∧ { sec61 with inputs := cycWord true false true :: [] : State }.inputs = cycWord true false true :: [] := by decide

theorem witness_RunRefusedOutsideInvariant :
    (zero (params 0 24 2)).params.wf = false ∧ sec61.params.wf = true ∧ sec61.inRange = false
      ∧ { zero (params 3 24 2) with tickCnt := 3 : State }.inRange = false
      ∧ { zero (params 3 24 2) with hr := 24 : State }.inRange = false
      ∧ { zero (params 3 24 2) with refCnt := 2 : State }.inRange = false
      ∧ { zero (params 3 24 2) with digitIdx := 6 : State }.inRange = false := by decide

theorem witness_EdgeDetectorsAreIndependent :
    prog3.Inv ∧ (zero (params 3 24 2)).Inv ∧ (zero (params 3 24 2)).btnM.sync1 = false
      ∧ (zero (params 3 24 2)).btnH.sync1 = false :=
  ⟨prog3_inv, zero_inv, rfl, rfl⟩

theorem witness_DividersRunFreely :
    prog3.Inv ∧ { prog3 with sec := 7, btnH := ⟨true, true, false⟩ : State }.Inv
      ∧ prog3.tickCnt = { prog3 with sec := 7 : State }.tickCnt :=
  ⟨prog3_inv, ⟨by decide, by decide⟩, rfl⟩

theorem witness_EventRowsAreTotalDelta : prog3.TimeInv := ⟨by decide, by decide⟩

theorem witness_EventRowsAdvanceTimeOfDay : prog3.TimeInv := ⟨by decide, by decide⟩

theorem witness_EventRowsReachOnlyTheirFields :
    ∃ u, exec (evtInstr (word3 false false false)) prog3 = .next u := ⟨_, rfl⟩

theorem witness_EventRowsRefusedOutsideRanges :
    (zero (params 0 24 2)).params.wf = false ∧ sec61.params.wf = true ∧ sec61.timeInRange = false := by decide

theorem witness_SixtyTicksAreOneMinute : (at24 0 59 23).TimeInv ∧ (at24 0 59 23).sec = 0 :=
  ⟨⟨by decide, by decide⟩, rfl⟩

theorem witness_DayLastsHourModTimes3600Ticks :
    (at24 0 0 0).params.wf = true ∧ (at24 0 0 0).sec = 0 ∧ (at24 0 0 0).min = 0 ∧ (at24 0 0 0).hr = 0 := by decide

theorem witness_EncodeOfDecode : decode ⟨.idx, 0b110⟩ = .ok .csRsv6 := by decide

theorem witness_DecodeRejectsOnlyBitsAboveFormat :
    (7 : Byte).toNat < 2 ^ Format.cyc.width ∧ 2 ^ Format.cyc.width ≤ (8 : Byte).toNat
      ∧ (15 : Byte).toNat < 2 ^ Format.dig.width ∧ 2 ^ Format.dig.width ≤ (16 : Byte).toNat := by decide

theorem witness_StimulusWordsAreCycWords : cycWord false false true ∈ programWords (params 3 24 2) [.tapM] := by decide

theorem witness_StepRunsDecodedInstruction :
    { prog3 with inputs := [.cyc 0b001] : State }.inputs = .cyc 0b001 :: []
      ∧ decode (Request.cyc 0b001).code = .ok (.run false true)
      ∧ decode (Request.dig 0b1111).code = .ok .segRsv15 ∧ decode (Request.idx 0b101).code = .ok .cs5 := by decide

theorem witness_StepRunsFreeCycWord : prog3.inputs = [] := rfl

theorem witness_FetchWordIsRunNext : decodeTableWord 8 4 = some (.reset false false) := by decide

theorem witness_StepIsResetOrRun :
    { prog3 with inputs := [.cyc 0b100] : State }.Inv
      ∧ (0b100 : BitVec 3).getLsbD 2 = true ∧ (0b011 : BitVec 3).getLsbD 2 = false :=
  ⟨prog3_inv, by decide, by decide⟩

theorem witness_StepKeepsParameters :
    ∃ t, step { prog3 with inputs := [.cyc 0b001] } = .next t := ⟨_, rfl⟩

theorem witness_WiresRecordIsNeverRead :
    (∃ t, step { prog3 with inputs := [.cyc 0b001] } = .next t)
      ∧ ∃ r, step { sec61 with inputs := [.cyc 0b001] } = .refused r := ⟨⟨_, rfl⟩, ⟨_, rfl⟩⟩

theorem witness_StepKeepsInvariant :
    { prog3 with inputs := [.cyc 0b001] : State }.Inv
      ∧ ∃ t, step { prog3 with inputs := [.cyc 0b001] } = .next t := ⟨prog3_inv, _, rfl⟩

theorem witness_EventsComeFromOwnWires :
    (∃ t, step { prog3 with inputs := [.cyc 0b001] } = .next t) ∧ evtWord prog3 = 0b011
      ∧ (∃ t, step { prog3 with inputs := [.cyc 0b100] } = .next t)
      ∧ ∃ t, step { prog3 with inputs := [.idx 0b110] } = .next t := ⟨⟨_, rfl⟩, by decide, ⟨_, rfl⟩, ⟨_, rfl⟩⟩

theorem witness_EventWordsThatOccur :
    (zero (params 1 24 2)).Inv ∧ (zero (params 1 24 2)).params.tickPeriod = 1
      ∧ (zero (params 1 24 2)).params.wf = true ∧ (zero (params 1 24 2)).AtZero ∧ (0b101 : BitVec 3).getLsbD 0 = true
      ∧ (zero (params 2 24 2)).params.wf = true ∧ (zero (params 2 24 2)).params.tickPeriod ≠ 1 :=
  ⟨⟨by decide, by decide⟩, rfl, by decide, zero_atZero _, by decide, by decide, by decide⟩

theorem witness_NoRunEnds : { prog3 with inputs := [.cyc 0b001, .idx 7, .dig 12] : State }.Inv := prog3_inv

theorem witness_CountersClosedForm : (zero (params 3 24 2)).params.wf = true ∧ (zero (params 3 24 2)).AtZero :=
  ⟨by decide, zero_atZero _⟩

theorem witness_EdgeDetectorClosedForm : (zero (paramsLow 3 24 2)).params.wf = true ∧ (zero (paramsLow 3 24 2)).AtZero :=
  ⟨by decide, zero_atZero _⟩

theorem witness_TickTrain : (zero (params 1 24 1)).params.wf = true ∧ (zero (params 1 24 1)).AtZero :=
  ⟨by decide, zero_atZero _⟩

theorem witness_DisplayScansRoundRobin : (zero (paramsLow 3 60 2)).params.wf = true ∧ (zero (paramsLow 3 60 2)).AtZero :=
  ⟨by decide, zero_atZero _⟩

theorem witness_ButtonHeldThroughReset :
    (params 3 24 2).wf = true
      ∧ { sec61 with inputs := cycWord true false true :: runWords [(false, true), (false, true), (false, true)] : State }.inputs
        = cycWord true false (pressedRaw sec61.params) :: runWords [(false, pressedRaw sec61.params),
            (false, pressedRaw sec61.params), (false, pressedRaw sec61.params)]
      ∧ { sec61 with inputs := cycWord true true false :: runWords [(true, false), (true, false), (true, false)] : State }.inputs
        = cycWord true (pressedRaw sec61.params) false :: runWords [(pressedRaw sec61.params, false),
            (pressedRaw sec61.params, false), (pressedRaw sec61.params, false)] := by decide

theorem witness_TapGivesOnePulse :
    (zero (paramsLow 3 24 2)).Inv ∧ (zero (paramsLow 3 24 2)).btnM = ⟨false, false, false⟩
      ∧ (zero (paramsLow 3 24 2)).btnH = ⟨false, false, false⟩ ∧ 2 ≤ 0 + 2 :=
  ⟨⟨by decide, by decide⟩, rfl, rfl, by decide⟩

end Sys2Proof.Tests
end

namespace Sys2Proof.Machine

/-- 46 R150: the dispatcher gives RUN from a state in the invariant the one answer `runStep`. -/
theorem exec_run_of_inv {s : State} (hs : s.Inv) (h m : Bool) :
    exec (.run h m) s = .next (runStep h m s) := by
  have hexec : exec (.run h m) s = execRun h m s := rfl
  rw [hexec, execRun_of_inv hs]

/-- 42 R91: the pressed level is the next first stage. -/
@[simp] theorem edgeNext_sync1 (d : EdgeDetector) (pressed : Bool) :
    (edgeNext d pressed).sync1 = pressed := rfl

/-- 42 R91: another pressed level changes the first stage alone. -/
theorem edgeNext_eq_with_sync1 (d : EdgeDetector) (pressed pressed' : Bool) :
    edgeNext d pressed' = { edgeNext d pressed with sync1 := pressed' } := rfl

/-- 46 R150: the raw levels of a RUN cycle reach the next state through the two edge detectors alone; the wires and
every other register read none of them. -/
theorem runStep_eq_with_btn (h m h' m' : Bool) (s : State) :
    runStep h' m' s = { runStep h m s with
      btnM := edgeNext s.btnM (pressedLevel s m')
      btnH := edgeNext s.btnH (pressedLevel s h') } := rfl

/-- Settles O19: the edge detectors are all that the raw levels reach (`runStep_eq_with_btn`), and of a detector only
the first stage (`edgeNext_eq_with_sync1`). -/
theorem rawLinesReachFirstStagesOnly : Obligations.RawLinesReachFirstStagesOnly := by
  intro h m h' m' s hs
  refine ⟨runStep h m s, exec_run_of_inv hs h m, ?_, ?_, ?_⟩
  · rw [runStep_btnM, edgeNext_sync1, pressedLevel]
  · rw [runStep_btnH, edgeNext_sync1, pressedLevel]
  · rw [exec_run_of_inv hs, runStep_eq_with_btn h m h' m',
      edgeNext_eq_with_sync1 s.btnM (pressedLevel s m) (pressedLevel s m'),
      edgeNext_eq_with_sync1 s.btnH (pressedLevel s h) (pressedLevel s h')]
    simp only [runStep_btnM, runStep_btnH, pressedLevel]

end Sys2Proof.Machine

namespace Sys2Proof.Machine

/-- 41 R81, 45 R131: the next count of a divider whose last-value wire compares the count with P-1. -/
theorem dividerNext_decide_last (cnt P : Nat) :
    dividerNext (decide (cnt = P - 1)) cnt = if cnt = P - 1 then 0 else cnt + 1 := by
  simp only [dividerNext, decide_eq_true_eq]

/-- 41 R81: the TICKGEN step of a RUN cycle, with `tick` written out as 41 R80. -/
theorem runStep_tickCnt_eq_ite (h m : Bool) (s : State) :
    (runStep h m s).tickCnt = if s.tickCnt = s.params.tickPeriod - 1 then 0 else s.tickCnt + 1 := by
  rw [runStep_tickCnt, tickWire, dividerNext_decide_last]

/-- 10 R33: a RUN cycle keeps the tick count below the period. -/
theorem runStep_tickCnt_lt {s : State} (hs : s.Inv) (h m : Bool) :
    (runStep h m s).tickCnt < s.params.tickPeriod := by
  obtain ⟨-, hrange⟩ := hs
  obtain ⟨htick, -⟩ := (inRange_iff s).1 hrange
  rw [runStep_tickCnt]
  exact dividerNext_lt htick rfl

/-- Settles O9: RUN answers `runStep`, whose tick count is the divider's next count, again below the period. -/
theorem runStepsTickDivider : Obligations.RunStepsTickDivider := by
  intro h m s hs
  exact ⟨runStep h m s, exec_run_of_inv hs h m, runStep_tickCnt_eq_ite h m s,
    Nat.le_sub_one_of_lt (runStep_tickCnt_lt hs h m)⟩

end Sys2Proof.Machine

namespace Sys2Proof.Machine

/-- 42 R91: the second stage takes the old first stage. -/
@[simp] theorem edgeNext_sync2 (d : EdgeDetector) (pressed : Bool) :
    (edgeNext d pressed).sync2 = d.sync1 := rfl

/-- 42 R91: the delayed flop takes the old second stage. -/
@[simp] theorem edgeNext_prev (d : EdgeDetector) (pressed : Bool) :
    (edgeNext d pressed).prev = d.sync2 := rfl

/-- Settles O10: RUN answers `runStep`, which steps each detector by `edgeNext`. -/
theorem runShiftsEdgeDetectors : Obligations.RunShiftsEdgeDetectors := by
  intro h m s hs
  refine ⟨runStep h m s, exec_run_of_inv hs h m, ?_⟩
  simp only [runStep_btnM, runStep_btnH, edgeNext_sync1, edgeNext_sync2, edgeNext_prev, and_self]

end Sys2Proof.Machine

namespace Sys2Proof.Machine

/-- 00 R13: a wrapped value still lies below its modulus once it is cut to a time field's six bits. -/
theorem ofNat_wrapInc_lt (x d : Nat) {M : Nat} (hM : 0 < M) :
    (BitVec.ofNat 6 (wrapInc x d M).1).toNat < M := by
  rw [BitVec.toNat_ofNat]
  exact (Nat.mod_le _ _).trans_lt (wrapInc_fst_lt x d hM)

/-- 10 R33: a RUN cycle keeps the time fields in range, whatever they were. -/
theorem runStep_timeInRange {s : State} (hwf : s.params.wf = true) (h m : Bool) :
    (runStep h m s).timeInRange = true := by
  obtain ⟨-, hH, -, -⟩ := (Params.wf_iff _).1 hwf
  rw [timeInRange_iff, runStep_sec, runStep_min, runStep_hr, runStep_params]
  exact ⟨ofNat_wrapInc_lt _ _ (by decide), ofNat_wrapInc_lt _ _ (by decide), ofNat_wrapInc_lt _ _ (by omega)⟩

/-- 10 R33: a RUN cycle keeps the invariant. -/
theorem runStep_inv {s : State} (hs : s.Inv) (h m : Bool) : (runStep h m s).Inv := by
  have htick := runStep_tickCnt_lt hs h m
  obtain ⟨hwf, hrange⟩ := hs
  obtain ⟨-, -, href, hidx⟩ := (inRange_iff s).1 hrange
  exact ⟨hwf, (inRange_iff _).2
    ⟨htick, runStep_timeInRange hwf h m, dividerNext_lt href rfl, indexNext_lt _ hidx⟩⟩

/-- 30 R62: a `CYC` word with `rst` at 0 asks for RUN with its two levels. -/
theorem requestInstr_cycWord_run (h m : Bool) : requestInstr (cycWord false h m) = .run h m := by
  cases h <;> cases m <;> rfl

/-- A run of no cycle leaves the state, with nothing queued. -/
theorem runCycles_nil (s : State) : runCycles [] s = .next { s with inputs := [] } := rfl

/-- 46 R150: from a state in the invariant, a run of RUN cycles goes on from `runStep` of its first. -/
theorem runCycles_cons_of_inv {s : State} (hs : s.Inv) (h m : Bool) (levels : List (Bool × Bool)) :
    runCycles ((h, m) :: levels) s = runCycles levels (runStep h m s) := by
  have hstep : step { s with inputs := runWords ((h, m) :: levels) }
      = .next { runStep h m s with inputs := runWords levels } := by
    have hinv : { s with inputs := runWords levels : State }.Inv := hs
    rw [step_cons (r := cycWord false h m) (rest := runWords levels) rfl, requestInstr_cycWord_run]
    exact exec_run_of_inv hinv h m
  exact run_succ_of_next hstep

/-- 30 R73: the raw level PR reads as pressed under either polarity. -/
@[simp] theorem pressedLevel_pressedRaw (s : State) : pressedLevel s (pressedRaw s.params) = true := by
  rw [pressedLevel, pressedRaw, Bool.not_xor_self]

/-- 42 R91, R92: a detector pulses after a step where its first stage was 1 and its second 0. -/
theorem pulse_edgeNext (d : EdgeDetector) (pressed : Bool) :
    pulse (edgeNext d pressed) = (d.sync1 && !d.sync2) := rfl

/-- 42 R93: a press sampled where the first stage is 0 gives the pulse one step later. -/
theorem pulse_of_press {d : EdgeDetector} (hd : d.sync1 = false) (pressed : Bool) :
    pulse (edgeNext (edgeNext d true) pressed) = true := by
  rw [pulse_edgeNext, edgeNext_sync1, edgeNext_sync2, hd, Bool.not_false, Bool.and_self]

/-- 30 R64: bit 1 of the event word is `inc_minutes`. -/
theorem evtWord_getLsbD_one (s : State) : (evtWord s).getLsbD 1 = pulse s.btnM := by
  unfold evtWord
  generalize pulse s.btnH = h, pulse s.btnM = m, tickWire s = t
  revert h m t
  decide

/-- 30 R64: bit 2 of the event word is `inc_hours`. -/
theorem evtWord_getLsbD_two (s : State) : (evtWord s).getLsbD 2 = pulse s.btnH := by
  unfold evtWord
  generalize pulse s.btnH = h, pulse s.btnM = m, tickWire s = t
  revert h m t
  decide

/-- 42 R96: another detector H, and another level on its line, leave M's next flops as they are. -/
theorem runStep_btnM_eq_of_btnH (h h' m : Bool) (d : EdgeDetector) (s : State) :
    (runStep h m s).btnM = (runStep h' m { s with btnH := d }).btnM := rfl

/-- 42 R96: another detector M, and another level on its line, leave H's next flops as they are. -/
theorem runStep_btnH_eq_of_btnM (h m m' : Bool) (d : EdgeDetector) (s : State) :
    (runStep h m s).btnH = (runStep h m' { s with btnM := d }).btnH := rfl

/-- Settles O20: a detector's next flops are its own and its line's, and the invariant reads no flop; the second RUN
cycle is taken because the first keeps the invariant, and after it each detector pulses by `pulse_of_press`. -/
theorem edgeDetectorsAreIndependent : Obligations.EdgeDetectorsAreIndependent := by
  refine ⟨?_, ?_, ?_⟩
  · intro h h' m d s hs
    have hs' : { s with btnH := d : State }.Inv := hs
    exact ⟨_, _, exec_run_of_inv hs h m, exec_run_of_inv hs' h' m, runStep_btnM_eq_of_btnH h h' m d s⟩
  · intro h m m' d s hs
    have hs' : { s with btnM := d : State }.Inv := hs
    exact ⟨_, _, exec_run_of_inv hs h m, exec_run_of_inv hs' h m', runStep_btnH_eq_of_btnM h m m' d s⟩
  · intro h m s hs hM hH
    have hs' := runStep_inv hs (pressedRaw s.params) (pressedRaw s.params)
    refine ⟨_, (runCycles_cons_of_inv hs _ _ _).trans
      ((runCycles_cons_of_inv hs' h m []).trans (runCycles_nil _)), ?_, ?_⟩
    · rw [evtWord_getLsbD_one]
      simp only [runStep_btnM, pressedLevel_pressedRaw, pulse_of_press hM]
    · rw [evtWord_getLsbD_two]
      simp only [runStep_btnH, pressedLevel_pressedRaw, pulse_of_press hH]

end Sys2Proof.Machine

namespace Sys2Proof.Machine

/-- 44 R121: the tens digit is at most 63 / 10 = 6, so its four bits hold the quotient exactly. -/
@[simp] theorem toNat_bcdTens (v : Field6) : (bcdTens v).toNat = v.toNat / 10 := by
  have hv : v.toNat < 64 := v.isLt
  have hlt : v.toNat / 10 < 2 ^ 4 := by omega
  rw [bcdTens, BitVec.toNat_ofNat, Nat.mod_eq_of_lt hlt]

/-- 44 R121: the ones digit is at most 9, so its four bits hold the remainder exactly. -/
@[simp] theorem toNat_bcdOnes (v : Field6) : (bcdOnes v).toNat = v.toNat % 10 := by
  have hlt : v.toNat % 10 < 2 ^ 4 := by omega
  rw [bcdOnes, BitVec.toNat_ofNat, Nat.mod_eq_of_lt hlt]

/-- Settles O32: quotient and remainder of a six-bit value both fit a digit. -/
theorem bcdSplitsEveryValue : Obligations.BcdSplitsEveryValue :=
  fun v => ⟨toNat_bcdTens v, toNat_bcdOnes v⟩

end Sys2Proof.Machine

namespace Sys2Proof.Machine

/-- 45 R132: the INDEX step wraps 5 to 0 and holds where it is not told to advance, so on the six display positions it
counts modulo 6. -/
theorem toNat_indexNext (adv : Bool) {i : Index} (hi : i.toNat < 6) :
    (indexNext adv i).toNat = if adv then (i.toNat + 1) % 6 else i.toNat := by
  cases adv with
  | false => rfl
  | true =>
    by_cases hlast : i = 5
    · subst hlast
      rfl
    · have hne : i.toNat ≠ 5 := fun h => hlast (BitVec.eq_of_toNat_eq h)
      have hsucc : (i + 1).toNat = i.toNat + 1 :=
        BitVec.toNat_add_of_lt (y := 1#3) (show i.toNat + 1 < 8 by omega)
      have hmod : (i.toNat + 1) % 6 = i.toNat + 1 := Nat.mod_eq_of_lt (by omega)
      simp only [indexNext, hlast, if_true, if_false, hsucc, hmod]

/-- Settles O11: RUN answers `runStep`, whose digit index is the INDEX step of one below 6. -/
theorem runStepsDigitIndex : Obligations.RunStepsDigitIndex := by
  intro h m s hs
  obtain ⟨-, -, -, hidx⟩ := (inRange_iff s).1 hs.2
  refine ⟨runStep h m s, exec_run_of_inv hs h m, ?_⟩
  rw [runStep_digitIdx, toNat_indexNext _ hidx]

end Sys2Proof.Machine

namespace Sys2Proof.Machine

/-! ### The encoding: 30 R62-R67 -/

/-- 30 R62: a `CYC` word with `rst` at 1 asks for RESET with its two levels. -/
theorem requestInstr_cycWord_reset (h m : Bool) : requestInstr (cycWord true h m) = .reset h m := by
  cases h <;> cases m <;> rfl

/-- 30 R62: bit 2 of a `CYC` word at 1 is a RESET cycle. -/
theorem cycInstr_of_rst {w : BitVec 3} (hw : w.getLsbD 2 = true) :
    cycInstr w = .reset (w.getLsbD 1) (w.getLsbD 0) := by
  rw [cycInstr, if_pos hw]

/-- 30 R62: bit 2 of a `CYC` word at 0 is a RUN cycle. -/
theorem cycInstr_of_not_rst {w : BitVec 3} (hw : w.getLsbD 2 = false) :
    cycInstr w = .run (w.getLsbD 1) (w.getLsbD 0) := by
  rw [cycInstr, hw, if_neg Bool.false_ne_true]

theorem encode_cycInstr (w : BitVec 3) : encode (cycInstr w) = ⟨.cyc, w.setWidth 8⟩ := by
  revert w; decide

theorem encode_evtInstr (w : BitVec 3) : encode (evtInstr w) = ⟨.evt, w.setWidth 8⟩ := by
  revert w; decide

theorem encode_digInstr (d : Digit) : encode (digInstr d) = ⟨.dig, d.setWidth 8⟩ := by
  revert d; decide

theorem encode_idxInstr (i : Index) : encode (idxInstr i) = ⟨.idx, i.setWidth 8⟩ := by
  revert i; decide

/-- A byte that fits in `n` bits is not changed by cutting it to them. -/
theorem setWidth_setWidth_of_lt {n : Nat} {b : Byte} (hb : b.toNat < 2 ^ n) :
    (b.setWidth n).setWidth 8 = b := by
  apply BitVec.eq_of_toNat_eq
  rw [BitVec.toNat_setWidth, BitVec.toNat_setWidth, Nat.mod_eq_of_lt hb, Nat.mod_eq_of_lt b.isLt]

theorem wf_iff_lt (c : CodeWord) : c.wf = true ↔ c.bits.toNat < 2 ^ c.fmt.width := by
  rw [CodeWord.wf, decide_eq_true_eq]

/-- 30 R71: a code that fits its format decodes. -/
theorem decode_of_wf {c : CodeWord} (hc : c.wf = true) : ∃ i, decode c = .ok i := by
  rw [decode, if_pos hc]
  cases c.fmt <;> exact ⟨_, rfl⟩

/-- Log 11: a byte with a bit above its format is rejected by name. -/
theorem decode_of_not_wf {c : CodeWord} (hc : ¬ c.wf = true) :
    decode c = .error (.bitsAboveFormat c.fmt c.bits) := by
  rw [decode, if_neg hc]

theorem wf_of_decode {c : CodeWord} {i : Instr} (hd : decode c = .ok i) : c.wf = true := by
  by_contra hc
  rw [decode_of_not_wf hc] at hd
  cases hd

/-- Settles O33: RESET and RUN are read back from the word of their request (`decode_request`); every other row has one
code, which its format's decoder reads back. -/
theorem decodeOfEncode : Obligations.DecodeOfEncode := by
  intro i
  cases i with
  | reset h m => exact (decode_request (cycWord true h m)).trans (congrArg _ (requestInstr_cycWord_reset h m))
  | run h m => exact (decode_request (cycWord false h m)).trans (congrArg _ (requestInstr_cycWord_run h m))
  | _ => rfl

/-- Settles O34: each format's encoder undoes its decoder on the format's bits, and a word that decodes has no other. -/
theorem encodeOfDecode : Obligations.EncodeOfDecode := by
  intro c i hd
  have hwf := wf_of_decode hd
  have hbits := setWidth_setWidth_of_lt ((wf_iff_lt c).1 hwf)
  rw [decode, if_pos hwf] at hd
  obtain ⟨fmt, bits⟩ := c
  cases fmt <;> obtain rfl := Except.ok.inj hd
  case cyc => exact (encode_cycInstr _).trans (congrArg (CodeWord.mk .cyc) hbits)
  case evt => exact (encode_evtInstr _).trans (congrArg (CodeWord.mk .evt) hbits)
  case dig => exact (encode_digInstr _).trans (congrArg (CodeWord.mk .dig) hbits)
  case idx => exact (encode_idxInstr _).trans (congrArg (CodeWord.mk .idx) hbits)

/-- Settles O35: `decode` answers by `CodeWord.wf` alone, which is the bound on the bits. -/
theorem decodeRejectsOnlyBitsAboveFormat : Obligations.DecodeRejectsOnlyBitsAboveFormat := by
  intro c
  refine ⟨?_, fun hge => decode_of_not_wf ?_⟩
  · rw [← wf_iff_lt]
    exact ⟨fun ⟨_, hd⟩ => wf_of_decode hd, decode_of_wf⟩
  · rw [wf_iff_lt]
    exact Nat.not_lt.2 hge

/-- Settles O36: each word's row, read off by the decoder. -/
theorem decodeOfSpecWords : Obligations.DecodeOfSpecWords := by
  unfold Obligations.DecodeOfSpecWords
  decide

end Sys2Proof.Machine

namespace Sys2Proof.Machine

/-! ### The stimulus words: 30 R72, R73 -/

/-- 30 R62: what the decoder reads from the word {R, h, m}. -/
theorem decode_cycWord (rst h m : Bool) :
    decode (cycWord rst h m).code = .ok (if rst then .reset h m else .run h m) := by
  rw [decode_request]
  cases rst with
  | false => rw [requestInstr_cycWord_run]; rfl
  | true => rw [requestInstr_cycWord_reset]; rfl

theorem programWords_append (p : Params) (prog prog' : List Stmt) :
    programWords p (prog ++ prog') = programWords p prog ++ programWords p prog' :=
  List.flatMap_append

@[simp] theorem programWords_singleton (p : Params) (st : Stmt) : programWords p [st] = stmtWords p st :=
  List.flatMap_singleton _ _

/-- 30 R72, R73: a statement's words are all of the form {R, h, m}. -/
theorem exists_cycWord_of_mem_stmtWords {p : Params} {st : Stmt} {c : Request} (hc : c ∈ stmtWords p st) :
    ∃ rst h m, c = cycWord rst h m := by
  cases st with
  | cycles | idle | holdM | holdH => exact ⟨_, _, _, List.eq_of_mem_replicate hc⟩
  | tapM | tapH =>
    rcases List.mem_pair.1 hc with rfl | rfl <;> exact ⟨_, _, _, rfl⟩

theorem exists_cycWord_of_mem_programWords {p : Params} {prog : List Stmt} {c : Request}
    (hc : c ∈ programWords p prog) : ∃ rst h m, c = cycWord rst h m := by
  obtain ⟨st, -, hst⟩ := List.mem_flatMap.1 hc
  exact exists_cycWord_of_mem_stmtWords hst

/-- Settles O37: the words of each statement are those of 30 R72 and R73, and `decode_cycWord` reads them. -/
theorem stimulusWordsAreCycWords : Obligations.StimulusWordsAreCycWords := by
  intro p released pressed decoded
  refine ⟨?_, ?_, ?_, ?_, ?_, ?_, ?_⟩
  · intro prog c hc
    obtain ⟨rst, h, m, rfl⟩ := exists_cycWord_of_mem_programWords hc
    refine ⟨rfl, h, m, ?_⟩
    rw [decode_cycWord]
    cases rst with
    | false => exact .inr rfl
    | true => exact .inl rfl
  · intro prog prog'
    simp only [decoded, programWords_append, List.map_append]
  · intro rst m h k
    exact programWords_singleton p _
  · intro m h k
    constructor <;>
      simp [decoded, stmtWords, decode_cycWord, releasedLevel, released]
  · intro k
    refine ⟨?_, ?_, ?_⟩ <;>
      simp [decoded, stmtWords, decode_cycWord, releasedLevel, pressedRaw, released, pressed]
  · simp [decoded, stmtWords, decode_cycWord, releasedLevel, pressedRaw, released, pressed]
  · simp [decoded, stmtWords, decode_cycWord, releasedLevel, pressedRaw, released, pressed]

end Sys2Proof.Machine

namespace Sys2Proof.Machine

/-! ### The invariant, RESET and what a step can do: 10 R33, 46 R151, R152 -/

/-- 10 R33: the zero state meets the invariant under admitted parameters. -/
theorem State.AtZero.inv {s : State} (hz : s.AtZero) (hwf : s.params.wf = true) : s.Inv := by
  obtain ⟨htick, -, -, hsec, hmin, hhr, href, hidx⟩ := hz
  obtain ⟨hP, hH, -, hN⟩ := (Params.wf_iff _).1 hwf
  refine ⟨hwf, (inRange_iff s).2 ⟨?_, (timeInRange_iff s).2 ⟨?_, ?_, ?_⟩, ?_, ?_⟩⟩
  · rwa [htick]
  · rw [hsec]; decide
  · rw [hmin]; decide
  · rw [hhr]; exact Nat.lt_of_lt_of_le Nat.zero_lt_two hH
  · rwa [href]
  · rw [hidx]; decide

theorem zeroState_atZero (s : State) : (zeroState s).AtZero :=
  ⟨rfl, rfl, rfl, rfl, rfl, rfl, rfl, rfl⟩

/-- The state that a RESET cycle leads to (46 R151). -/
def resetState (s : State) : State :=
  { zeroState s with wires := cycleWires (zeroState s) }

theorem exec_reset (h m : Bool) (s : State) : exec (.reset h m) s = .next (resetState s) := rfl

@[simp] theorem resetState_params (s : State) : (resetState s).params = s.params := rfl

theorem resetState_atZero (s : State) : (resetState s).AtZero := zeroState_atZero s

theorem resetState_inv {s : State} (hwf : s.params.wf = true) : (resetState s).Inv :=
  (resetState_atZero s).inv hwf

/-- Taking a request moves no register and no parameter. -/
theorem takeInput_inv_iff (s : State) : (takeInput s).Inv ↔ s.Inv := by
  unfold takeInput
  split <;> exact Iff.rfl

/-- The decoder rows write the record of the wires and nothing else. -/
theorem exec_displayRow (r : Request) (hr : r.code.fmt ≠ .cyc) (s : State) :
    ∃ w, exec (requestInstr r) s = .next { s with wires := w } := by
  cases r with
  | cyc w => exact absurd rfl hr
  | dig d => exact ⟨_, exec_digInstr d s⟩
  | idx i => exact ⟨_, exec_idxInstr i s⟩

/-- 46 R152 and log 2: a request asks for a RESET cycle, for a RUN cycle, or for a decoder alone. -/
theorem requestInstr_cases (r : Request) :
    (∃ h m, requestInstr r = .reset h m) ∨ (∃ h m, requestInstr r = .run h m) ∨ r.code.fmt ≠ .cyc := by
  cases r with
  | cyc w =>
    cases hw : w.getLsbD 2 with
    | true => exact .inl ⟨_, _, cycInstr_of_rst hw⟩
    | false => exact .inr (.inl ⟨_, _, cycInstr_of_not_rst hw⟩)
  | dig d => exact .inr (.inr Format.noConfusion)
  | idx i => exact .inr (.inr Format.noConfusion)

/-- All that a step that answers a next state can have done. -/
theorem step_next_cases {s t : State} (he : step s = .next t) :
    t = resetState (takeInput s)
      ∨ (∃ h m, s.Inv ∧ t = runStep h m (takeInput s))
      ∨ ∃ w, t = { takeInput s with wires := w } := by
  rw [step] at he
  rcases requestInstr_cases (nextRequest s) with ⟨h, m, hr⟩ | ⟨h, m, hr⟩ | hr
  · rw [hr, exec_reset] at he
    cases he
    exact .inl rfl
  · rw [hr] at he
    obtain ⟨hinv, rfl⟩ := execRun_next he
    exact .inr (.inl ⟨h, m, (takeInput_inv_iff s).1 hinv, rfl⟩)
  · obtain ⟨w, hw⟩ := exec_displayRow _ hr (takeInput s)
    rw [hw] at he
    cases he
    exact .inr (.inr ⟨w, rfl⟩)

/-- 46 R153: from a state in the invariant a step is taken. -/
theorem exists_step_of_inv {s : State} (hs : s.Inv) : ∃ t, step s = .next t := by
  rw [step]
  rcases requestInstr_cases (nextRequest s) with ⟨h, m, hr⟩ | ⟨h, m, hr⟩ | hr
  · rw [hr]
    exact ⟨_, exec_reset h m _⟩
  · rw [hr]
    exact ⟨_, exec_run_of_inv ((takeInput_inv_iff s).2 hs) h m⟩
  · obtain ⟨w, hw⟩ := exec_displayRow _ hr (takeInput s)
    exact ⟨_, hw⟩

/-- Settles O44: RESET reaches the zero state, RUN keeps the ranges (`runStep_inv`), and a decoder row moves no
register. -/
theorem stepKeepsInvariant : Obligations.StepKeepsInvariant := by
  intro s t hs he
  have hs' := (takeInput_inv_iff s).2 hs
  obtain rfl | ⟨h, m, -, rfl⟩ | ⟨w, rfl⟩ := step_next_cases he
  · exact resetState_inv hs'.1
  · exact runStep_inv hs' h m
  · exact hs'

/-- Settles O45, by induction on the number of steps: from a state in the invariant a step is taken, and it keeps the
invariant. -/
theorem noRunEnds : Obligations.NoRunEnds := by
  intro n
  induction n with
  | zero => exact fun s hs => ⟨s, rfl, hs⟩
  | succ n ih =>
    intro s hs
    obtain ⟨t, ht⟩ := exists_step_of_inv hs
    rw [run_succ_of_next ht]
    exact ih t (stepKeepsInvariant s t hs ht)

/-- Settles O42: no case of `step_next_cases` writes the parameters. -/
theorem stepKeepsParameters : Obligations.StepKeepsParameters := by
  intro s t he
  obtain rfl | ⟨h, m, -, rfl⟩ | ⟨w, rfl⟩ := step_next_cases he
  · rw [resetState_params, takeInput_params]
  · rw [runStep_params, takeInput_params]
  · exact takeInput_params s

/-- Log 5: which request comes next, and what is left after it, does not depend on the record. -/
theorem takeInput_with_wires (s : State) (w : Wires) :
    takeInput { s with wires := w } = { takeInput s with wires := w } := by
  obtain ⟨-, -, -, -, -, -, -, -, -, -, inputs, -⟩ := s
  cases inputs <;> rfl

theorem SameRegisters.refl (s : State) : SameRegisters s s :=
  ⟨rfl, rfl, rfl, rfl, rfl, rfl, rfl, rfl⟩

theorem SameEnvironment.refl (s : State) : SameEnvironment s s :=
  ⟨rfl, rfl, rfl⟩

/-- Log 5: a RESET cycle reads the zero state alone. -/
theorem exec_reset_with_wires (h m : Bool) (s : State) (w : Wires) :
    exec (.reset h m) { s with wires := w } = exec (.reset h m) s := rfl

/-- Log 5: a RUN cycle computes its wires anew. -/
theorem exec_run_with_wires (h m : Bool) (s : State) (w : Wires) :
    exec (.run h m) { s with wires := w } = exec (.run h m) s := rfl

/-- Settles O43: the request is the same under another record; RESET and RUN answer the same outcome, and a decoder row
answers a next state that differs in the record at most. -/
theorem wiresRecordIsNeverRead : Obligations.WiresRecordIsNeverRead := by
  intro s w
  have hstep : step { s with wires := w }
      = exec (requestInstr (nextRequest s)) { takeInput s with wires := w } := by
    rw [step, takeInput_with_wires]
    rfl
  rw [hstep, step]
  rcases requestInstr_cases (nextRequest s) with ⟨h, m, hr⟩ | ⟨h, m, hr⟩ | hr
  · rw [hr, exec_reset_with_wires]
    exact ⟨fun t ht => ⟨t, ht, .refl t, .refl t⟩, fun _ hf => hf⟩
  · rw [hr, exec_run_with_wires]
    exact ⟨fun t ht => ⟨t, ht, .refl t, .refl t⟩, fun _ hf => hf⟩
  · obtain ⟨w₁, h₁⟩ := exec_displayRow _ hr (takeInput s)
    obtain ⟨w₂, h₂⟩ := exec_displayRow _ hr { takeInput s with wires := w }
    rw [h₁, h₂]
    refine ⟨fun t ht => ?_, fun _ hf => nomatch hf⟩
    cases ht
    exact ⟨_, rfl, .refl _, .refl _⟩

/-- Settles O38: the law of a queued request that decodes. -/
theorem stepRunsDecodedInstruction : Obligations.StepRunsDecodedInstruction :=
  fun _ _ _ _ hs hd => step_of_decode hs hd

/-- Settles O39: with nothing queued the request is the free word, and taking it counts one draw. -/
theorem stepRunsFreeCycWord : Obligations.StepRunsFreeCycWord := by
  intro s hs
  rw [step, nextRequest_nil hs, takeInput_nil hs, requestInstr]

/-- A code word of any format but `EVT` that decodes makes the request of its row. -/
theorem codeRequest_of_decode {c : CodeWord} {i : Instr} (hd : decode c = .ok i) (hfmt : c.fmt ≠ .evt) :
    ∃ r, codeRequest c = some r ∧ requestInstr r = i := by
  have hwf := wf_of_decode hd
  rw [decode, if_pos hwf] at hd
  rw [codeRequest, if_pos hwf]
  obtain ⟨fmt, bits⟩ := c
  cases fmt with
  | evt => exact absurd rfl hfmt
  | cyc | dig | idx => exact ⟨_, rfl, Except.ok.inj hd⟩

/-- Log 1: a table word is read as a `CYC` or a `DIG` code. -/
theorem untaggedFormat_ne_evt (w : Nat) : untaggedFormat w ≠ .evt := by
  unfold untaggedFormat
  split <;> exact Format.noConfusion

/-- Log 1: a table word that decodes makes the request of its row. -/
theorem tableRequest_of_decode {nbits w : Nat} {i : Instr} (hd : decodeTableWord nbits w = some i) :
    ∃ r, (tableCode w).bind codeRequest = some r ∧ requestInstr r = i := by
  unfold decodeTableWord at hd
  split at hd
  case h_2 => cases hd
  case h_1 c hc =>
    split at hd
    case h_2 => cases hd
    case h_1 j hj =>
      obtain rfl := Option.some.inj hd
      have hfmt : c.fmt ≠ .evt := by
        unfold tableCode at hc
        split at hc
        · obtain rfl := Option.some.inj hc
          exact untaggedFormat_ne_evt w
        · cases hc
      rw [hc]
      exact codeRequest_of_decode hj hfmt

/-- Settles O40: the placed word is queued as the request of its row, which the next step takes. -/
theorem fetchWordIsRunNext : Obligations.FetchWordIsRunNext := by
  intro nbits w i s hd
  obtain ⟨r, hr, hi⟩ := tableRequest_of_decode hd
  have hs : s.withFetchWord nbits w = { s with inputs := r :: s.inputs } := by
    rw [State.withFetchWord, hr]
  rw [hs, step_cons rfl, hi]

/-- Settles O41: bit 2 of the word decides between RESET, which leads to the zero state, and RUN. -/
theorem stepIsResetOrRun : Obligations.StepIsResetOrRun := by
  intro c rest s hs
  rw [step_cons hs, requestInstr]
  refine ⟨fun hc => ?_, fun hc hinv => ?_⟩
  · rw [cycInstr_of_rst hc]
    exact ⟨_, exec_reset _ _ _, resetState_atZero _, rfl⟩
  · have hinv' : { s with inputs := rest : State }.Inv := hinv
    rw [cycInstr_of_not_rst hc, exec_run_of_inv hinv']

end Sys2Proof.Machine

namespace Sys2Proof.Machine

/-! ### Reset: 70 R175, 46 R151 -/

/-- 46 R152: a queued RESET word leads to the zero state with the word taken. -/
theorem step_of_reset_word {s : State} {h m : Bool} {rest : List Request}
    (hs : s.inputs = cycWord true h m :: rest) : step s = .next (resetState { s with inputs := rest }) := by
  rw [step_cons hs, requestInstr_cycWord_reset, exec_reset]

/-- Settles O6: a RESET cycle is defined from every state and leads to the zero state, which meets the invariant. -/
theorem resetWordRecoversFromAnyState : Obligations.ResetWordRecoversFromAnyState := by
  intro h m rest s hwf hs
  exact ⟨_, step_of_reset_word hs, resetState_atZero _, resetState_inv hwf, rfl, rfl, rfl⟩

/-- Settles O1: each register at reset as `State.reset` gives it. -/
theorem resetStateIsZero : Obligations.ResetStateIsZero :=
  ⟨⟨rfl, rfl, rfl, rfl, rfl, rfl, rfl, rfl⟩, rfl, rfl, rfl, rfl, rfl, rfl⟩

/-- 00 R8: the parameters of this hardware are admitted, whatever F and R are. -/
theorem config_params_wf : Config.params.wf = true :=
  (Params.wf_iff _).2 ⟨Nat.succ_pos _, by decide, by decide, Nat.succ_pos _⟩

/-- Settles O3: the zero state meets the invariant, and P and N are at least 1 for every F and R. -/
theorem resetStateMeetsInvariant : Obligations.ResetStateMeetsInvariant :=
  resetStateIsZero.1.inv config_params_wf

/-- 41 R80, 45 R130: a divider at 0 is at its last count exactly if its period, of at least 1, is 1. -/
theorem zero_eq_pred_iff {P : Nat} (hP : 0 < P) : 0 = P - 1 ↔ P = 1 := by
  omega

/-- 41 R80 in the reset state: tick is 1 only with P = 1. -/
theorem tickWire_reset : tickWire State.reset = decide (Config.tickPeriod = 1) :=
  decide_eq_decide.2 (zero_eq_pred_iff (Nat.succ_pos _))

/-- 45 R130 in the reset state: `ref_adv` is 1 only with N = 1. -/
theorem refAdvWire_reset : refAdvWire State.reset = decide (Config.refreshDiv = 1) :=
  decide_eq_decide.2 (zero_eq_pred_iff (Nat.succ_pos _))

/-- Settles O2: only `tick`, `ref_adv` and `s_next` depend on the open P and N; the tick decides the last. -/
theorem resetWiresAreThoseOfZeroState : Obligations.ResetWiresAreThoseOfZeroState := by
  unfold Obligations.ResetWiresAreThoseOfZeroState
  simp only [cycleWires, tickWire_reset, refAdvWire_reset]
  by_cases hP : Config.tickPeriod = 1
  · simp only [State.reset, Wires.reset, hP]
    rfl
  · simp only [State.reset, Wires.reset, hP]
    rfl

/-- 45 R136: position 0 shows the ones digit of `sec`. -/
theorem digitAt_zero (d : Digits) : digitAt d 0 = d.secOnes := rfl

/-- 45 R136, R137: the zero state selects the digit 0. -/
theorem curDigitWire_zeroState (s : State) : curDigitWire (zeroState s) = 0 :=
  (digitAt_zero (bcdDigits (zeroState s))).trans (by decide : bcdOnes 0 = 0)

/-- 45 R138, R139: the segment port of a RESET cycle shows 0. -/
theorem resetState_segOut (s : State) : (resetState s).wires.segOut = polar 0x3F s.params.segActiveLow := by
  have hshown : segTab (curDigitWire (zeroState s)) = 0x3F := by
    rw [curDigitWire_zeroState]; decide
  exact congrArg (segPort s) hshown

/-- Settles O4: the state after RESET is `resetState`, whose wires are the wire functions on the zero state. -/
theorem resetCycleZeroesEveryRegister : Obligations.ResetCycleZeroesEveryRegister := by
  intro h m s
  exact ⟨_, exec_reset h m s, resetState_atZero s, .refl _, rfl, rfl, rfl, resetState_segOut s⟩

/-- The wires of a RESET cycle depend on the parameters alone. -/
theorem resetState_wires_congr {s s' : State} (hp : s.params = s'.params) :
    (resetState s).wires = (resetState s').wires := by
  obtain ⟨_, _, _, _, _, _, _, _, params, _, _, _⟩ := s
  obtain rfl : params = s'.params := hp
  rfl

/-- Settles O5: the zero state forgets the registers, and its wires read the parameters alone. -/
theorem resetForgetsStateAndLevels : Obligations.ResetForgetsStateAndLevels := by
  intro h m h' m' s s' hp
  exact ⟨_, _, exec_reset h m s, exec_reset h' m' s', .refl (zeroState s), resetState_wires_congr hp⟩

/-- 00 R13, R8: at 1 Hz the tick period is the clock frequency. -/
theorem tickPeriod_eq_sysClkHz : Config.tickPeriod = Config.sysClkHz := by
  have hpos : 0 < Config.sysClkHz := Nat.succ_pos _
  simp only [Config.tickPeriod, Config.roundHalfUp, Config.tickHz]
  omega

/-- Settles O52, by the laws of the two maxima. -/
theorem parametersFromFrequencies : Obligations.ParametersFromFrequencies :=
  ⟨Laws.tickPeriod_eq_max, tickPeriod_eq_sysClkHz, Laws.refreshDiv_eq_max⟩

end Sys2Proof.Machine

namespace Sys2Proof.Machine

/-! ### The Time Core: 43 R100-R113 -/

theorem wrapInc_of_lt {x d M : Nat} (h : x + d < M) : wrapInc x d M = (x + d, false) := by
  rw [wrapInc, Nat.mod_eq_of_lt h, decide_eq_false (Nat.not_le.2 h)]

theorem wrapInc_of_eq {x d M : Nat} (h : x + d = M) : wrapInc x d M = (0, true) := by
  rw [wrapInc, h, Nat.mod_self, decide_eq_true (le_refl M)]

/-- 00 R8, R9: a value wrapped at 60 or below is held exactly in a time field. -/
theorem toNat_ofNat_wrapInc (x d : Nat) {M : Nat} (hpos : 0 < M) (hM : M ≤ 60) :
    (BitVec.ofNat 6 (wrapInc x d M).1).toNat = (wrapInc x d M).1 := by
  have hlt := wrapInc_fst_lt x d hpos
  have hfits : (wrapInc x d M).1 < 2 ^ 6 := by omega
  rw [BitVec.toNat_ofNat, Nat.mod_eq_of_lt hfits]

/-- 43 R100: a field's wrapped increment, held in the field, with its carry. -/
theorem wrapInc_eq_field (x : Field6) (d : Nat) :
    wrapInc x.toNat d 60 = ((BitVec.ofNat 6 (wrapInc x.toNat d 60).1).toNat, (wrapInc x.toNat d 60).2) := by
  rw [toNat_ofNat_wrapInc _ _ (by decide) (le_refl 60)]

/-- 43 R104: a field that nothing is added to keeps its value. -/
theorem wrapInc_field_zero {x : Field6} {M : Nat} (hx : x.toNat < M) : wrapInc x.toNat 0 M = (x.toNat, false) :=
  wrapInc_of_lt hx

theorem toNat_field_add_one {x : Field6} (hx : x.toNat + 1 < 64) : (x + 1).toNat = x.toNat + 1 :=
  BitVec.toNat_add_of_lt (y := 1#6) hx

/-- 43 R105, R106: below 59 a field counts up. -/
theorem wrapInc_field_one_of_ne {x : Field6} (hx : x.toNat < 60) (hne : x ≠ 59) :
    wrapInc x.toNat 1 60 = ((x + 1).toNat, false) := by
  have hlast : x.toNat ≠ 59 := fun h => hne (BitVec.eq_of_toNat_eq h)
  rw [toNat_field_add_one (by omega), wrapInc_of_lt (by omega)]

/-- 43 R105, R106: at 59 a field wraps to 0 and carries. -/
theorem wrapInc_field_one_of_eq {x : Field6} (heq : x = 59) :
    wrapInc x.toNat 1 60 = ((0 : Field6).toNat, true) := by
  rw [heq]
  exact wrapInc_of_eq rfl

/-- 43 R100: the total delta from the three fields' wrapped increments, each with the carry that the next one takes. -/
theorem totalDelta_of_steps {s : State} {t m h cS cM : Bool} {x y z : Field6}
    (hsec : wrapInc s.sec.toNat t.toNat 60 = (x.toNat, cS))
    (hmin : wrapInc s.min.toNat (cS.toNat + m.toNat) 60 = (y.toNat, cM))
    (hhr : (wrapInc s.hr.toNat (cM.toNat + h.toNat) s.params.hourMod).1 = z.toNat) :
    totalDelta s t m h = writeTime s t m h cS cM x y z := by
  have hdelta : totalDelta s t m h = writeTime s t m h (secNext s t).2 (minNext s t m).2
      (BitVec.ofNat 6 (secNext s t).1) (BitVec.ofNat 6 (minNext s t m).1) (BitVec.ofNat 6 (hrNext s t m h)) := rfl
  have hsec' : secNext s t = (x.toNat, cS) := hsec
  have hmin' : minNext s t m = (y.toNat, cM) := by rw [minNext, hsec', hmin]
  rw [hdelta, hrNext, hmin', hsec', hhr]
  simp only [BitVec.ofNat_toNat, BitVec.setWidth_eq]

section
variable {s : State} (hs : s.TimeInv)
include hs

theorem State.TimeInv.hourMod : 2 ≤ s.params.hourMod ∧ s.params.hourMod ≤ 60 := by
  obtain ⟨-, hH, hH', -⟩ := (Params.wf_iff _).1 hs.1
  exact ⟨hH, hH'⟩

theorem State.TimeInv.fields :
    s.sec.toNat < 60 ∧ s.min.toNat < 60 ∧ s.hr.toNat < s.params.hourMod :=
  (timeInRange_iff s).1 hs.2

/-- 43 R105: the hour field takes a carry as `hrPlusOne`. -/
theorem wrapInc_hr_carry (c : Bool) :
    (wrapInc s.hr.toNat c.toNat s.params.hourMod).1 = (if c then hrPlusOne s else s.hr).toNat := by
  obtain ⟨-, hH⟩ := hs.hourMod
  obtain ⟨-, -, hhr⟩ := hs.fields
  cases c with
  | false => rw [Bool.toNat_false, wrapInc_field_zero hhr]; rfl
  | true =>
    rw [Bool.toNat_true, if_pos rfl, hrPlusOne]
    split
    case isTrue hlast => rw [wrapInc_of_eq hlast]; rfl
    case isFalse hlast => rw [wrapInc_of_lt (by omega), toNat_field_add_one (by omega)]

theorem exec_coreIdle : exec .coreIdle s = .next (totalDelta s false false false) := by
  obtain ⟨hsec, hmin, -⟩ := hs.fields
  refine (timeCoreRow_of_inv hs _).trans (congrArg _ (Eq.symm ?_))
  exact totalDelta_of_steps (wrapInc_field_zero hsec) (wrapInc_field_zero hmin) (wrapInc_hr_carry hs false)

theorem exec_coreT : exec .coreT s = .next (totalDelta s true false false) := by
  obtain ⟨hsec, hmin, -⟩ := hs.fields
  refine (timeCoreRow_of_inv hs _).trans (congrArg _ (Eq.symm ?_))
  split
  case isTrue hs59 =>
    exact totalDelta_of_steps (wrapInc_field_one_of_ne hsec hs59) (wrapInc_field_zero hmin)
      (wrapInc_hr_carry hs false)
  case isFalse hs59 =>
    have hwrap := wrapInc_field_one_of_eq (not_not.1 hs59)
    split
    case isTrue hm59 =>
      exact totalDelta_of_steps hwrap (wrapInc_field_one_of_ne hmin hm59) (wrapInc_hr_carry hs false)
    case isFalse hm59 =>
      exact totalDelta_of_steps hwrap (wrapInc_field_one_of_eq (not_not.1 hm59)) (wrapInc_hr_carry hs true)

theorem exec_coreM : exec .coreM s = .next (totalDelta s false true false) := by
  obtain ⟨hsec, hmin, -⟩ := hs.fields
  refine (timeCoreRow_of_inv hs _).trans (congrArg _ (Eq.symm ?_))
  split
  case isTrue hm59 =>
    exact totalDelta_of_steps (wrapInc_field_zero hsec) (wrapInc_field_one_of_ne hmin hm59)
      (wrapInc_hr_carry hs false)
  case isFalse hm59 =>
    exact totalDelta_of_steps (wrapInc_field_zero hsec) (wrapInc_field_one_of_eq (not_not.1 hm59))
      (wrapInc_hr_carry hs true)

theorem exec_coreTM : exec .coreTM s = .next (totalDelta s true true false) := by
  obtain ⟨hsec, -, -⟩ := hs.fields
  refine (timeCoreRow_of_inv hs _).trans (congrArg _ (Eq.symm ?_))
  by_cases hs59 : s.sec = 59
  · rw [decide_eq_true hs59, if_neg (not_not.2 hs59), if_neg (not_not.2 hs59)]
    exact totalDelta_of_steps (wrapInc_field_one_of_eq hs59) (wrapInc_eq_field s.min 2) (wrapInc_hr_carry hs _)
  · rw [decide_eq_false hs59, if_pos hs59, if_pos hs59]
    exact totalDelta_of_steps (wrapInc_field_one_of_ne hsec hs59) (wrapInc_eq_field s.min 1) (wrapInc_hr_carry hs _)

theorem exec_coreH : exec .coreH s = .next (totalDelta s false false true) := by
  obtain ⟨hsec, hmin, -⟩ := hs.fields
  refine (timeCoreRow_of_inv hs _).trans (congrArg _ (Eq.symm ?_))
  exact totalDelta_of_steps (wrapInc_field_zero hsec) (wrapInc_field_zero hmin) (wrapInc_hr_carry hs true)

theorem exec_coreTH : exec .coreTH s = .next (totalDelta s true false true) :=
  timeCoreRow_of_inv hs _

theorem exec_coreMH : exec .coreMH s = .next (totalDelta s false true true) := by
  obtain ⟨hH, hH'⟩ := hs.hourMod
  obtain ⟨hsec, -, -⟩ := hs.fields
  refine (timeCoreRow_of_inv hs _).trans (congrArg _ (Eq.symm ?_))
  exact totalDelta_of_steps (wrapInc_field_zero hsec) (wrapInc_eq_field s.min 1)
    (toNat_ofNat_wrapInc _ _ (by omega) hH').symm

theorem exec_coreTMH : exec .coreTMH s = .next (totalDelta s true true true) :=
  timeCoreRow_of_inv hs _

end

/-- Settles O22: each row's own pseudocode is the total delta of its events, row by row. -/
theorem eventRowsAreTotalDelta : Obligations.EventRowsAreTotalDelta :=
  fun _ hs => ⟨exec_coreIdle hs, exec_coreT hs, exec_coreM hs, exec_coreTM hs, exec_coreH hs, exec_coreTH hs,
    exec_coreMH hs, exec_coreTMH hs⟩

/-- 30 R64, 43 R100: the row that three event bits select answers their total delta. -/
theorem exec_evtInstr_word3 {s : State} (hs : s.TimeInv) (t m h : Bool) :
    exec (evtInstr (word3 h m t)) s = .next (totalDelta s t m h) := by
  cases h <;> cases m <;> cases t
  case false.false.false => exact exec_coreIdle hs
  case false.false.true => exact exec_coreT hs
  case false.true.false => exact exec_coreM hs
  case false.true.true => exact exec_coreTM hs
  case true.false.false => exact exec_coreH hs
  case true.false.true => exact exec_coreTH hs
  case true.true.false => exact exec_coreMH hs
  case true.true.true => exact exec_coreTMH hs

/-- Log 9, log 10: every Time Core row makes the checks of `timeCoreRow` first. -/
theorem exists_exec_evtInstr_eq_timeCoreRow (w : BitVec 3) (s : State) :
    ∃ r, exec (evtInstr w) s = timeCoreRow s r := by
  rcases Laws.bv3_cases w with h | h | h | h | h | h | h | h <;> subst h <;> exact ⟨_, rfl⟩

/-- Settles O25: the checks of `timeCoreRow`, in their order. -/
theorem eventRowsRefusedOutsideRanges : Obligations.EventRowsRefusedOutsideRanges := by
  intro w s
  obtain ⟨r, hr⟩ := exists_exec_evtInstr_eq_timeCoreRow w s
  rw [hr]
  refine ⟨fun hwf => ?_, fun hwf hrange => ?_⟩
  · simp only [timeCoreRow, hwf, Bool.not_false, if_true]
  · simp only [timeCoreRow, hwf, hrange, Bool.not_true, Bool.not_false, Bool.false_eq_true, if_false, if_true]

/-- All that a Time Core row that answers a next state can have done. -/
theorem exec_evtInstr_next {s u : State} {t m h : Bool} (he : exec (evtInstr (word3 h m t)) s = .next u) :
    s.TimeInv ∧ u = totalDelta s t m h := by
  obtain ⟨r, hr⟩ := exists_exec_evtInstr_eq_timeCoreRow (word3 h m t) s
  obtain ⟨hs, -⟩ := timeCoreRow_next (hr.symm.trans he)
  rw [exec_evtInstr_word3 hs] at he
  cases he
  exact ⟨hs, rfl⟩

theorem toNat_totalDelta_sec (s : State) (t m h : Bool) : (totalDelta s t m h).sec.toNat = (secNext s t).1 :=
  toNat_ofNat_wrapInc _ _ (by decide) (le_refl 60)

theorem toNat_totalDelta_min (s : State) (t m h : Bool) : (totalDelta s t m h).min.toNat = (minNext s t m).1 :=
  toNat_ofNat_wrapInc _ _ (by decide) (le_refl 60)

section
variable {s : State} (hs : s.TimeInv) (t m h : Bool)
include hs

theorem toNat_totalDelta_hr : (totalDelta s t m h).hr.toNat = hrNext s t m h := by
  obtain ⟨hH, hH'⟩ := hs.hourMod
  exact toNat_ofNat_wrapInc _ _ (by omega) hH'

/-- 43 R112: the total delta keeps the ranges. -/
theorem totalDelta_timeInv : (totalDelta s t m h).TimeInv := by
  obtain ⟨hH, -⟩ := hs.hourMod
  refine ⟨hs.1, (timeInRange_iff _).2 ⟨?_, ?_, ?_⟩⟩
  · rw [toNat_totalDelta_sec]
    exact wrapInc_fst_lt _ _ (by decide)
  · rw [toNat_totalDelta_min]
    exact wrapInc_fst_lt _ _ (by decide)
  · rw [toNat_totalDelta_hr hs]
    exact wrapInc_fst_lt _ _ (Nat.lt_of_lt_of_le Nat.zero_lt_two hH)

/-- 43 R101: no second and no minute is lost between a field and its carry, and the hours wrap modulo H; so the time of
day advances by the sum of the events modulo one day. -/
theorem timeOfDay_totalDelta : timeOfDay (totalDelta s t m h)
    = (timeOfDay s + t.toNat + 60 * m.toNat + 3600 * h.toNat) % (3600 * s.params.hourMod) := by
  obtain ⟨hsec, hmin, -⟩ := hs.fields
  have ht := Bool.toNat_le t
  have hm := Bool.toNat_le m
  have hcS := Bool.toNat_le (secNext s t).2
  have hsecs : (secNext s t).1 + 60 * (secNext s t).2.toNat = s.sec.toNat + t.toNat :=
    wrapInc_total hsec (by omega)
  have hmins : (minNext s t m).1 + 60 * (minNext s t m).2.toNat
      = s.min.toNat + ((secNext s t).2.toNat + m.toNat) := wrapInc_total hmin (by omega)
  have hsec' : (secNext s t).1 < 60 := wrapInc_fst_lt _ _ (by decide)
  have hmin' : (minNext s t m).1 < 60 := wrapInc_fst_lt _ _ (by decide)
  have hhr : hrNext s t m h = (s.hr.toNat + ((minNext s t m).2.toNat + h.toNat)) % s.params.hourMod := rfl
  have hsum : timeOfDay s + t.toNat + 60 * m.toNat + 3600 * h.toNat
      = 60 * (minNext s t m).1 + (secNext s t).1
        + 3600 * (s.hr.toNat + ((minNext s t m).2.toNat + h.toNat)) := by
    unfold timeOfDay
    omega
  rw [hsum, Nat.mod_mul, Nat.add_mul_mod_self_left, Nat.add_mul_div_left _ _ (by decide),
    Nat.mod_eq_of_lt (by omega), Nat.div_eq_of_lt (by omega), Nat.zero_add, ← hhr, timeOfDay,
    toNat_totalDelta_sec, toNat_totalDelta_min, toNat_totalDelta_hr hs]
  omega

end

/-- Settles O23: the selected row answers the total delta of the three bits. -/
theorem eventRowsAdvanceTimeOfDay : Obligations.EventRowsAdvanceTimeOfDay :=
  fun t m h _ hs => ⟨_, exec_evtInstr_word3 hs t m h, totalDelta_timeInv hs t m h, timeOfDay_totalDelta hs t m h⟩

/-- 43 R102: without a tick there is nothing to add to `sec`, and no carry. -/
theorem secNext_false {s : State} (hs : s.TimeInv) : secNext s false = (s.sec.toNat, false) :=
  wrapInc_field_zero hs.fields.1

/-- 43 R102: without a tick and a minutes press there is nothing to add to `min`, and no carry. -/
theorem minNext_false {s : State} (hs : s.TimeInv) : minNext s false false = (s.min.toNat, false) := by
  obtain ⟨-, hmin, -⟩ := hs.fields
  rw [minNext, secNext_false hs]
  exact wrapInc_field_zero hmin

/-- 43 R102: without any event there is nothing to add to `hr`. -/
theorem hrNext_false {s : State} (hs : s.TimeInv) : hrNext s false false false = s.hr.toNat := by
  obtain ⟨-, -, hhr⟩ := hs.fields
  rw [hrNext, minNext_false hs]
  exact congrArg Prod.fst (wrapInc_field_zero hhr)

/-- Settles O24: the row's result is the total delta, which writes the time fields and their wires alone, and adds
nothing to a field that no event reaches. -/
theorem eventRowsReachOnlyTheirFields : Obligations.EventRowsReachOnlyTheirFields := by
  intro t m h s u he
  obtain ⟨hs, rfl⟩ := exec_evtInstr_next he
  refine ⟨⟨rfl, rfl, rfl, rfl, rfl, rfl, rfl, rfl⟩, ?_, ?_, ?_, rfl, rfl, rfl, rfl, rfl, rfl, rfl⟩
  · rintro rfl
    apply BitVec.eq_of_toNat_eq
    rw [toNat_totalDelta_sec, secNext_false hs]
  · rintro rfl rfl
    apply BitVec.eq_of_toNat_eq
    rw [toNat_totalDelta_min, minNext_false hs]
  · rintro rfl rfl rfl
    apply BitVec.eq_of_toNat_eq
    rw [toNat_totalDelta_hr hs, hrNext_false hs]

theorem execTimes_succ_of_next {i : Instr} {s t : State} (he : exec i s = .next t) (n : Nat) :
    execTimes i (n + 1) s = execTimes i n t := by
  rw [execTimes, he]

theorem timeOfDay_lt {s : State} (hs : s.TimeInv) : timeOfDay s < 3600 * s.params.hourMod := by
  obtain ⟨hsec, hmin, hhr⟩ := hs.fields
  unfold timeOfDay
  omega

/-- 43 R113: `n` CORE_T run, keep the ranges and the parameters, and advance the time of day by `n` seconds modulo one
day. -/
theorem execTimes_coreT (n : Nat) {s : State} (hs : s.TimeInv) :
    ∃ t, execTimes .coreT n s = .next t ∧ t.TimeInv ∧ t.params = s.params
      ∧ timeOfDay t = (timeOfDay s + n) % (3600 * s.params.hourMod) := by
  induction n generalizing s with
  | zero => exact ⟨s, rfl, hs, rfl, (Nat.mod_eq_of_lt (timeOfDay_lt hs)).symm⟩
  | succ n ih =>
    obtain ⟨t, ht, hinv, hparams, htime⟩ := ih (totalDelta_timeInv hs true false false)
    refine ⟨t, (execTimes_succ_of_next (exec_coreT hs) n).trans ht, hinv, hparams, ?_⟩
    have hdelta : timeOfDay (totalDelta s true false false) = (timeOfDay s + 1) % (3600 * s.params.hourMod) :=
      timeOfDay_totalDelta hs true false false
    have hH : (totalDelta s true false false).params = s.params := rfl
    rw [htime, hH, hdelta, Nat.mod_add_mod, Nat.add_right_comm, Nat.add_assoc]

theorem field_eq_zero_iff (x : Field6) : x = 0 ↔ x.toNat = 0 :=
  BitVec.toNat_eq

/-- Settles O26: sixty seconds from sec = 0 are a multiple of sixty seconds later, so sec is 0 again, and the rest is
one minute more modulo the day. -/
theorem sixtyTicksAreOneMinute : Obligations.SixtyTicksAreOneMinute := by
  intro s hs hsec
  obtain ⟨t, ht, hinv, -, htime⟩ := execTimes_coreT 60 hs
  obtain ⟨hsec', -, -⟩ := hinv.fields
  have hstart : timeOfDay s + 60 = 60 * (60 * s.hr.toNat + s.min.toNat + 1) := by
    rw [timeOfDay, (field_eq_zero_iff _).1 hsec]
    omega
  have hday : 3600 * s.params.hourMod = 60 * (60 * s.params.hourMod) := by omega
  rw [hstart, hday, Nat.mul_mod_mul_left, timeOfDay] at htime
  refine ⟨t, ht, (field_eq_zero_iff _).2 ?_, ?_⟩ <;> omega

/-- The time of day is 0 exactly at 00:00:00. -/
theorem timeOfDay_eq_zero_iff (s : State) : timeOfDay s = 0 ↔ s.sec = 0 ∧ s.min = 0 ∧ s.hr = 0 := by
  rw [field_eq_zero_iff, field_eq_zero_iff, field_eq_zero_iff, timeOfDay]
  omega

/-- Settles O27: after n ticks from midnight the time of day is n modulo one day. -/
theorem dayLastsHourModTimes3600Ticks : Obligations.DayLastsHourModTimes3600Ticks := by
  intro n s hwf hsec hmin hhr
  have hmidnight := (timeOfDay_eq_zero_iff s).2 ⟨hsec, hmin, hhr⟩
  obtain ⟨-, hH, -, -⟩ := (Params.wf_iff _).1 hwf
  have hs : s.TimeInv := by
    refine ⟨hwf, (timeInRange_iff s).2 ?_⟩
    rw [hsec, hmin, hhr]
    exact ⟨by decide, by decide, Nat.lt_of_lt_of_le Nat.zero_lt_two hH⟩
  obtain ⟨t, ht, -, -, htime⟩ := execTimes_coreT n hs
  refine ⟨t, ht, ?_⟩
  rw [← timeOfDay_eq_zero_iff, htime, hmidnight, Nat.zero_add, Nat.mul_comm, Nat.dvd_iff_mod_eq_zero]

end Sys2Proof.Machine

namespace Sys2Proof.Machine

/-! ### The RUN cycle: 46 R150 -/

/-- 10 R33, log 10: RUN is refused by name where its checks fail. -/
theorem exec_run_of_not_wf {s : State} (hwf : s.params.wf = false) (h m : Bool) :
    exec (.run h m) s = .refused .paramsNotAdmitted := by
  have hexec : exec (.run h m) s = execRun h m s := rfl
  simp only [hexec, execRun, hwf, Bool.not_false, if_true]

theorem exec_run_of_not_inRange {s : State} (hwf : s.params.wf = true) (hrange : s.inRange = false) (h m : Bool) :
    exec (.run h m) s = .refused .outsideInvariant := by
  have hexec : exec (.run h m) s = execRun h m s := rfl
  simp only [hexec, execRun, hwf, hrange, Bool.not_true, Bool.not_false, Bool.false_eq_true, if_false, if_true]

/-- Settles O8: the checks of RUN, in their order. -/
theorem runRefusedOutsideInvariant : Obligations.RunRefusedOutsideInvariant :=
  fun h m _ => ⟨fun hwf => exec_run_of_not_wf hwf h m, fun hwf hrange => exec_run_of_not_inRange hwf hrange h m⟩

/-- The Time Core's total delta of a cycle that starts in `s`, on the wires of that cycle. -/
def cycleDelta (s : State) : State :=
  totalDelta s (tickWire s) (pulse s.btnM) (pulse s.btnH)

/-- 43 R100: a RUN cycle moves the time fields by the total delta of its own wires. -/
theorem runStep_time (h m : Bool) (s : State) :
    (runStep h m s).sec = (cycleDelta s).sec ∧ (runStep h m s).min = (cycleDelta s).min
      ∧ (runStep h m s).hr = (cycleDelta s).hr :=
  ⟨rfl, rfl, rfl⟩

/-- 45 R131: the next count of the refresh divider, with `ref_adv` written out as 45 R130. -/
theorem runStep_refCnt_eq_ite (h m : Bool) (s : State) :
    (runStep h m s).refCnt = if s.refCnt = s.params.refreshDiv - 1 then 0 else s.refCnt + 1 := by
  rw [runStep_refCnt, refAdvWire, dividerNext_decide_last]

/-- 45 R132: the next index, with `ref_adv` written out as 45 R130. -/
theorem runStep_digitIdx_eq_ite (h m : Bool) (s : State) :
    (runStep h m s).digitIdx = if s.refCnt = s.params.refreshDiv - 1
      then (if s.digitIdx = 5 then 0 else s.digitIdx + 1) else s.digitIdx := by
  simp only [runStep_digitIdx, indexNext, refAdvWire, decide_eq_true_eq]

/-- Settles O7: RUN answers `runStep`, register by register. -/
theorem runGivesAllTwelveRegisters : Obligations.RunGivesAllTwelveRegisters := by
  intro h m s hs
  exact ⟨_, exec_run_of_inv hs h m, runStep_tickCnt_eq_ite h m s, rfl, rfl, runStep_time h m s,
    runStep_refCnt_eq_ite h m s, runStep_digitIdx_eq_ite h m s, rfl, rfl, rfl, rfl⟩

/-- 41 R81, 45 R131: a divider counts modulo its period. -/
theorem dividerNext_eq_mod {cnt P : Nat} (hc : cnt < P) :
    dividerNext (decide (cnt = P - 1)) cnt = (cnt + 1) % P := by
  rw [dividerNext_decide_last]
  split
  case isTrue hlast =>
    have hP : cnt + 1 = P := by omega
    rw [hP, Nat.mod_self]
  case isFalse hlast => rw [Nat.mod_eq_of_lt (by omega)]

/-- Settles O12: the refresh divider counts modulo N, and a remainder lies below N. -/
theorem runStepsRefreshDivider : Obligations.RunStepsRefreshDivider := by
  intro h m s hs
  obtain ⟨-, -, href, -⟩ := (inRange_iff s).1 hs.2
  have hnext : (runStep h m s).refCnt = (s.refCnt + 1) % s.params.refreshDiv := dividerNext_eq_mod href
  refine ⟨_, exec_run_of_inv hs h m, hnext, ?_⟩
  rw [hnext]
  exact Nat.le_sub_one_of_lt (Nat.mod_lt _ (Nat.zero_lt_of_lt href))

/-- 43 R101: a RUN cycle advances the time of day by the sum of its events. -/
theorem timeOfDay_runStep {s : State} (hs : s.TimeInv) (h m : Bool) : timeOfDay (runStep h m s)
    = (timeOfDay s + (tickWire s).toNat + 60 * (pulse s.btnM).toNat + 3600 * (pulse s.btnH).toNat)
        % (3600 * s.params.hourMod) :=
  timeOfDay_totalDelta hs _ _ _

/-- Settles O13, by the total delta's effect on the time of day. -/
theorem runAdvancesTimeOfDay : Obligations.RunAdvancesTimeOfDay :=
  fun h m _ hs => ⟨_, exec_run_of_inv hs h m, timeOfDay_runStep hs.timeInv h m⟩

/-- 43 R103: `sec` carries exactly on a tick at 59. -/
theorem secNext_carry_iff {s : State} (hs : s.TimeInv) (t : Bool) :
    (secNext s t).2 = true ↔ t = true ∧ s.sec = 59 := by
  obtain ⟨hsec, -, -⟩ := hs.fields
  have h59 : s.sec = 59 ↔ s.sec.toNat = 59 := BitVec.toNat_eq
  rw [secNext, wrapInc_snd, decide_eq_true_iff, h59]
  cases t with
  | false =>
    simp only [Bool.toNat_false, Bool.false_eq_true, false_and, iff_false]
    omega
  | true =>
    simp only [Bool.toNat_true, true_and]
    omega

/-- 43 R103: `sec` counts the ticks modulo 60. -/
theorem runStep_toNat_sec (h m : Bool) (s : State) :
    (runStep h m s).sec.toNat = (s.sec.toNat + (tickWire s).toNat) % 60 :=
  toNat_totalDelta_sec s (tickWire s) (pulse s.btnM) (pulse s.btnH)

/-- Settles O14: the carries and fields of RUN are those of the total delta. -/
theorem runCarriesAreExact : Obligations.RunCarriesAreExact := by
  intro h m s hs
  have hcM : (minNext s (tickWire s) (pulse s.btnM)).2 = true
      ↔ 60 ≤ s.min.toNat + (secNext s (tickWire s)).2.toNat + (pulse s.btnM).toNat := by
    rw [minNext, wrapInc_snd, decide_eq_true_iff, Nat.add_assoc]
  have hmin := toNat_totalDelta_min s (tickWire s) (pulse s.btnM) (pulse s.btnH)
  have hhr := toNat_totalDelta_hr hs.timeInv (tickWire s) (pulse s.btnM) (pulse s.btnH)
  rw [minNext, wrapInc, ← Nat.add_assoc] at hmin
  rw [hrNext, wrapInc, ← Nat.add_assoc] at hhr
  exact ⟨_, exec_run_of_inv hs h m, secNext_carry_iff hs.timeInv _, hcM, runStep_toNat_sec h m s, hmin,
    hhr⟩

/-- 30 R64: the row of the block's own event word answers the total delta of its wires. -/
theorem exec_evtInstr_evtWord {s : State} (hs : s.TimeInv) :
    exec (evtInstr (evtWord s)) s = .next (cycleDelta s) :=
  exec_evtInstr_word3 hs _ _ _

/-- Settles O15: both answer the total delta of the cycle's wires. -/
theorem runMatchesItsEventRow : Obligations.RunMatchesItsEventRow :=
  fun h m _ hs => ⟨_, _, exec_run_of_inv hs h m, exec_evtInstr_evtWord hs.timeInv,
    rfl, rfl, rfl, rfl, rfl, rfl, rfl, rfl⟩

/-- The wires of a cycle do not depend on the requests to come. -/
theorem cycleWires_takeInput (s : State) : cycleWires (takeInput s) = cycleWires s := by
  unfold takeInput
  split <;> rfl

/-- Settles O53: of the cases of `step_next_cases`, RESET zeroes, a decoder row writes no register, and RUN moves the
time as the row of the event word does (`exec_evtInstr_evtWord`). -/
theorem eventsComeFromOwnWires : Obligations.EventsComeFromOwnWires := by
  intro s t he
  obtain rfl | ⟨h, m, hs, rfl⟩ | ⟨w, rfl⟩ := step_next_cases he
  · exact .inl (resetState_atZero _)
  · refine .inr (.inr ⟨_, exec_evtInstr_evtWord hs.timeInv, ?_⟩)
    simp only [runStep_sec, runStep_min, runStep_hr, runStep_wires, cycleWires_takeInput]
    exact ⟨rfl, rfl, rfl, rfl, rfl, rfl, rfl, rfl⟩
  · refine .inr (.inl ?_)
    simp only [SameRegisters, takeInput_tickCnt, takeInput_btnM, takeInput_btnH, takeInput_sec, takeInput_min,
      takeInput_hr, takeInput_refCnt, takeInput_digitIdx, and_self]

/-- Settles O21: each divider's next count is written out with its own count and period alone. -/
theorem dividersRunFreely : Obligations.DividersRunFreely := by
  intro h m h' m' s s' hs hs' htick href hidx hP hN
  refine ⟨_, _, exec_run_of_inv hs h m, exec_run_of_inv hs' h' m', ?_, ?_, ?_⟩
  · rw [runStep_tickCnt_eq_ite, runStep_tickCnt_eq_ite, htick, hP]
  · rw [runStep_refCnt_eq_ite, runStep_refCnt_eq_ite, href, hN]
  · rw [runStep_digitIdx_eq_ite, runStep_digitIdx_eq_ite, href, hidx, hN]

end Sys2Proof.Machine

namespace Sys2Proof.Machine

/-! ### The display: 44 R122, 45 R136-R141 -/

/-- Settles O16: the chip-select row drives what the RUN cycle drives, and the segment row of the digit it selected
drives that pattern once more. -/
theorem runMatchesItsDisplayRows : Obligations.RunMatchesItsDisplayRows := by
  intro h m s hs
  exact ⟨_, _, _, exec_run_of_inv hs h m, exec_idxInstr s.digitIdx s, exec_digInstr _ _,
    rfl, rfl, rfl, rfl, rfl, rfl, rfl, rfl, rfl⟩

/-- 00 R13: under an active-low polarity every bit of the pattern is inverted. -/
theorem getLsbD_polar {W i : Nat} (v : BitVec W) (activeLow : Bool) (hi : i < W) :
    (polar v activeLow).getLsbD i = (v.getLsbD i ^^ activeLow) := by
  cases activeLow with
  | false => rw [Bool.xor_false]; rfl
  | true =>
    rw [polar, if_pos rfl, BitVec.getLsbD_xor, BitVec.getLsbD_allOnes, decide_eq_true hi]

/-- 45 R140: the pattern of a position below 6 has that bit set alone. -/
theorem getLsbD_onehot6 {i : Nat} (hi : i < 6) {idx : Index} (hidx : idx.toNat < 6) :
    (onehot6 idx).getLsbD i = decide (i = idx.toNat) := by
  revert i idx
  decide

/-- Settles O17: the port is the one-hot pattern of the index under the polarity. -/
theorem runDrivesExactlyOneLine : Obligations.RunDrivesExactlyOneLine := by
  intro h m s hs
  obtain ⟨-, -, -, hidx⟩ := (inRange_iff s).1 hs.2
  refine ⟨_, exec_run_of_inv hs h m, fun i hi => ?_⟩
  have hport : (runStep h m s).wires.csOut = polar (onehot6 s.digitIdx) s.params.csActiveLow := rfl
  rw [hport, getLsbD_polar _ _ hi, getLsbD_onehot6 hi hidx]

/-- Settles O18: the digits are quotient and remainder of the fields by ten. -/
theorem runDigitsStandForFields : Obligations.RunDigitsStandForFields := by
  intro h m s hs
  obtain ⟨hsec, hmin, hhr⟩ := hs.timeInv.fields
  have hvalues : (runStep h m s).wires.values = bcdDigits s := rfl
  refine ⟨_, exec_run_of_inv hs h m, ?_⟩
  simp only [hvalues, bcdDigits, toNat_bcdTens, toNat_bcdOnes]
  omega

/-- 45 R138, R139: a segment row's result. -/
theorem driveSegments_eq (s : State) (d : Digit) (p : Segments) :
    driveSegments s d p = .next (segmentsShown s d p) := by
  rw [driveSegments, segPort_eq, segmentsShown]

/-- Settles O28: each row is `driveSegments` with its code and pattern. -/
theorem segmentRowsShowTheirGlyph : Obligations.SegmentRowsShowTheirGlyph := by
  intro s
  refine ⟨?_, ?_, ?_, ?_, ?_, ?_, ?_, ?_, ?_, ?_⟩ <;> exact driveSegments_eq s _ _

/-- Settles O29: each reserved row is `driveSegments` with its code and no segment. -/
theorem reservedSegmentRowsAreBlank : Obligations.ReservedSegmentRowsAreBlank := by
  intro s
  refine ⟨?_, ?_, ?_, ?_, ?_, ?_⟩ <;> exact driveSegments_eq s _ _

/-- 45 R140: the chip-select port is the pattern, or its complement where the lines are active-low. -/
theorem csPort_eq (s : State) (p : Select) : csPort s p = if s.params.csActiveLow then ~~~p else p := by
  unfold csPort
  cases s.params.csActiveLow <;> revert p <;> decide

/-- 45 R136-R140: a chip-select row's result, where `low` is the active-low form of its line pattern. -/
theorem driveSelect_eq (s : State) (d : Digit) {high low : Select} (hlow : ~~~high = low) :
    driveSelect s high d = .next (positionSelected s d high low) := by
  rw [driveSelect, segPort_eq, csPort_eq, segTab_eq_glyph, hlow, positionSelected]

/-- Settles O30: each row is `driveSelect` with its line and digit. -/
theorem selectRowsDriveTheirLine : Obligations.SelectRowsDriveTheirLine := by
  intro s
  refine ⟨?_, ?_, ?_, ?_, ?_, ?_, ?_, ?_⟩ <;> exact driveSelect_eq s _ (by decide)

/-- 45 R138: no glyph lights dp. -/
theorem segTab_getLsbD_seven (d : Digit) : (segTab d).getLsbD 7 = false := by
  revert d; decide

/-- 45 R137: the reserved positions select the code 15. -/
theorem digitAt_reserved (d : Digits) {i : Index} (hi : 6 ≤ i.toNat) : digitAt d i = 15 := by
  have hcode : i = 6#3 ∨ i = 7#3 := by
    revert i
    decide
  rcases hcode with rfl | rfl <;> rfl

/-- Settles O31: every display row is `driveSegments` or `driveSelect` with the table's pattern. -/
theorem displayRowsWriteNoRegister : Obligations.DisplayRowsWriteNoRegister := by
  refine ⟨fun d s => ?_, fun i s => ?_⟩
  · exact ⟨_, exec_digInstr d s, .refl _, .refl _, segTab_getLsbD_seven d, rfl⟩
  · refine ⟨_, exec_idxInstr i s, .refl _, .refl _, segTab_getLsbD_seven _, fun hi => ?_, rfl, rfl, rfl, rfl⟩
    have hblank : segTab (digitAt (bcdDigits s) i) = 0 := by
      rw [digitAt_reserved _ hi]; decide
    exact ⟨hblank, congrArg (segPort s) hblank⟩

end Sys2Proof.Machine

namespace Sys2Proof.Machine

/-! ### Runs of RUN cycles: 10 R34, 41 R82, 42 R93, 45 R133 -/

/-- The state that the RUN cycles of `levels` lead to, the queue aside. -/
def afterRuns (levels : List (Bool × Bool)) (s : State) : State :=
  levels.foldl (fun u l => runStep l.1 l.2 u) s

@[simp] theorem afterRuns_nil (s : State) : afterRuns [] s = s := rfl

theorem afterRuns_cons (l : Bool × Bool) (levels : List (Bool × Bool)) (s : State) :
    afterRuns (l :: levels) s = afterRuns levels (runStep l.1 l.2 s) := rfl

theorem afterRuns_concat (levels : List (Bool × Bool)) (l : Bool × Bool) (s : State) :
    afterRuns (levels ++ [l]) s = runStep l.1 l.2 (afterRuns levels s) :=
  List.foldl_concat _ _ _ _

@[simp] theorem afterRuns_params (levels : List (Bool × Bool)) (s : State) :
    (afterRuns levels s).params = s.params := by
  induction levels generalizing s with
  | nil => rfl
  | cons l levels ih => rw [afterRuns_cons, ih, runStep_params]

theorem afterRuns_inv (levels : List (Bool × Bool)) {s : State} (hs : s.Inv) : (afterRuns levels s).Inv := by
  induction levels generalizing s with
  | nil => exact hs
  | cons l levels ih => exact ih (runStep_inv hs l.1 l.2)

/-- 46 R152: a queued RUN word leads from a state in the invariant to the next state of its levels. -/
theorem step_of_run_word {s : State} {h m : Bool} {rest : List Request} (hs : s.Inv)
    (hq : s.inputs = cycWord false h m :: rest) : step s = .next (runStep h m { s with inputs := rest }) := by
  have hinv : { s with inputs := rest : State }.Inv := hs
  rw [step_cons hq, requestInstr_cycWord_run, exec_run_of_inv hinv]

/-- 46 R152: from a state in the invariant, a queue that starts with RUN words runs them and leaves the rest. -/
theorem run_runWords (levels : List (Bool × Bool)) (rest : List Request) {s : State} (hs : s.Inv) :
    Host.Core.run Sys2Proof.core levels.length { s with inputs := runWords levels ++ rest }
      = .next { afterRuns levels s with inputs := rest } := by
  induction levels generalizing s with
  | nil => rfl
  | cons l levels ih =>
    have hstep : step { s with inputs := runWords (l :: levels) ++ rest }
        = .next { runStep l.1 l.2 s with inputs := runWords levels ++ rest } :=
      step_of_run_word (s := { s with inputs := runWords (l :: levels) ++ rest }) hs rfl
    exact (run_succ_of_next hstep).trans (ih (runStep_inv hs l.1 l.2))

/-- A run of RUN cycles from a state in the invariant is taken to its end. -/
theorem runCycles_of_inv (levels : List (Bool × Bool)) {s : State} (hs : s.Inv) :
    runCycles levels s = .next { afterRuns levels s with inputs := [] } := by
  have hrun := run_runWords levels [] hs
  rwa [List.append_nil] at hrun

/-- The flops of a detector that has sampled the given pressed levels, the oldest first (42 R93). -/
def afterSamples (pressed : List Bool) (d : EdgeDetector) : EdgeDetector :=
  pressed.foldl edgeNext d

/-- 42 R91: M's flops after RUN cycles have sampled M's pressed levels. -/
theorem afterRuns_btnM (levels : List (Bool × Bool)) (s : State) :
    (afterRuns levels s).btnM = afterSamples (levels.map fun l => l.2 ^^ s.params.btnActiveLow) s.btnM := by
  induction levels generalizing s with
  | nil => rfl
  | cons l levels ih => exact ih (runStep l.1 l.2 s)

/-- 42 R91: H's flops after RUN cycles have sampled H's pressed levels. -/
theorem afterRuns_btnH (levels : List (Bool × Bool)) (s : State) :
    (afterRuns levels s).btnH = afterSamples (levels.map fun l => l.1 ^^ s.params.btnActiveLow) s.btnH := by
  induction levels generalizing s with
  | nil => rfl
  | cons l levels ih => exact ih (runStep l.1 l.2 s)

/-- 42 R93: from cleared flops a detector holds the last three levels it sampled. -/
theorem afterSamples_cleared (pressed : List Bool) : afterSamples pressed ⟨false, false, false⟩
    = ⟨pressed.reverse.getD 0 false, pressed.reverse.getD 1 false, pressed.reverse.getD 2 false⟩ := by
  induction pressed using List.reverseRecOn with
  | nil => rfl
  | append_singleton pressed p ih =>
    rw [afterSamples, List.foldl_concat, ← afterSamples, ih, List.reverse_concat]
    rfl

/-- 42 R93: the pulse is the second last sample and not the third last. -/
theorem pulse_afterSamples_cleared (pressed : List Bool) : pulse (afterSamples pressed ⟨false, false, false⟩)
    = (pressed.reverse.getD 1 false && !pressed.reverse.getD 2 false) := by
  rw [afterSamples_cleared, pulse]

/-- 41 R82, 45 R133: the quotient by a divider's period steps where the remainder is the last. -/
theorem succ_div_eq_ite (n : Nat) {P : Nat} (hP : 0 < P) :
    (n + 1) / P = n / P + if n % P = P - 1 then 1 else 0 := by
  have hiff : P ∣ n + 1 ↔ n % P = P - 1 := by
    have hlt := Nat.mod_lt n hP
    rw [Nat.dvd_iff_mod_eq_zero, ← Nat.mod_add_mod]
    constructor
    · intro h0
      by_contra hne
      rw [Nat.mod_eq_of_lt (by omega)] at h0
      omega
    · intro hlast
      rw [hlast, Nat.sub_add_cancel hP, Nat.mod_self]
  rw [Nat.succ_div]
  simp only [hiff]

section
variable {s : State} (hwf : s.params.wf = true) (hz : s.AtZero)
include hwf hz

/-- 41 R82: the tick count of RUN cycle n. -/
theorem afterRuns_tickCnt (levels : List (Bool × Bool)) :
    (afterRuns levels s).tickCnt = levels.length % s.params.tickPeriod := by
  induction levels using List.reverseRecOn with
  | nil => exact hz.1.trans (Nat.zero_mod _).symm
  | append_singleton levels l ih =>
    obtain ⟨hlt, -⟩ := (inRange_iff _).1 (afterRuns_inv levels (hz.inv hwf)).2
    have hnext : (afterRuns (levels ++ [l]) s).tickCnt
        = ((afterRuns levels s).tickCnt + 1) % (afterRuns levels s).params.tickPeriod := by
      rw [afterRuns_concat]
      exact dividerNext_eq_mod hlt
    rw [hnext, ih, afterRuns_params, Nat.mod_add_mod, List.length_append, List.length_singleton]

/-- 45 R133: the refresh count of RUN cycle n. -/
theorem afterRuns_refCnt (levels : List (Bool × Bool)) :
    (afterRuns levels s).refCnt = levels.length % s.params.refreshDiv := by
  obtain ⟨-, -, -, -, -, -, href, -⟩ := id hz
  induction levels using List.reverseRecOn with
  | nil => exact href.trans (Nat.zero_mod _).symm
  | append_singleton levels l ih =>
    obtain ⟨-, -, hlt, -⟩ := (inRange_iff _).1 (afterRuns_inv levels (hz.inv hwf)).2
    have hnext : (afterRuns (levels ++ [l]) s).refCnt
        = ((afterRuns levels s).refCnt + 1) % (afterRuns levels s).params.refreshDiv := by
      rw [afterRuns_concat]
      exact dividerNext_eq_mod hlt
    rw [hnext, ih, afterRuns_params, Nat.mod_add_mod, List.length_append, List.length_singleton]

/-- 41 R82: the tick of RUN cycle n. -/
theorem tickWire_afterRuns (levels : List (Bool × Bool)) : tickWire (afterRuns levels s)
    = decide (levels.length % s.params.tickPeriod = s.params.tickPeriod - 1) := by
  rw [tickWire, afterRuns_tickCnt hwf hz, afterRuns_params]

/-- 45 R133: `ref_adv` of RUN cycle n. -/
theorem refAdvWire_afterRuns (levels : List (Bool × Bool)) : refAdvWire (afterRuns levels s)
    = decide (levels.length % s.params.refreshDiv = s.params.refreshDiv - 1) := by
  rw [refAdvWire, afterRuns_refCnt hwf hz, afterRuns_params]

/-- 10 R34: no button reaches `sec`, which counts the ticks modulo 60. -/
theorem afterRuns_sec (levels : List (Bool × Bool)) :
    (afterRuns levels s).sec.toNat = (levels.length / s.params.tickPeriod) % 60 := by
  obtain ⟨-, -, -, hsec, -⟩ := id hz
  obtain ⟨hP, -⟩ := (Params.wf_iff _).1 hwf
  induction levels using List.reverseRecOn with
  | nil =>
    rw [afterRuns_nil, hsec, List.length_nil, Nat.zero_div]
    rfl
  | append_singleton levels l ih =>
    have hnext : (afterRuns (levels ++ [l]) s).sec.toNat
        = ((afterRuns levels s).sec.toNat + (tickWire (afterRuns levels s)).toNat) % 60 := by
      rw [afterRuns_concat]
      exact runStep_toNat_sec l.1 l.2 _
    rw [hnext, ih, tickWire_afterRuns hwf hz, Nat.mod_add_mod, List.length_append, List.length_singleton,
      succ_div_eq_ite _ hP, Bool.toNat, Bool.cond_decide]

/-- 45 R133: the position of RUN cycle n. -/
theorem afterRuns_digitIdx (levels : List (Bool × Bool)) :
    (afterRuns levels s).digitIdx.toNat = (levels.length / s.params.refreshDiv) % 6 := by
  obtain ⟨-, -, -, -, -, -, -, hidx⟩ := id hz
  obtain ⟨-, -, -, hN⟩ := (Params.wf_iff _).1 hwf
  induction levels using List.reverseRecOn with
  | nil =>
    rw [afterRuns_nil, hidx, List.length_nil, Nat.zero_div]
    rfl
  | append_singleton levels l ih =>
    obtain ⟨-, -, -, hlt⟩ := (inRange_iff _).1 (afterRuns_inv levels (hz.inv hwf)).2
    rw [afterRuns_concat, runStep_digitIdx, toNat_indexNext _ hlt, ih, refAdvWire_afterRuns hwf hz,
      List.length_append, List.length_singleton, succ_div_eq_ite _ hN]
    simp only [decide_eq_true_eq]
    split
    · rw [Nat.mod_add_mod]
    · rfl

end

/-- Settles O46: the run is taken from the zero state, and its four counters have their closed forms. -/
theorem countersClosedForm : Obligations.CountersClosedForm :=
  fun levels _ hwf hz => ⟨_, runCycles_of_inv levels (hz.inv hwf), afterRuns_tickCnt hwf hz levels,
    afterRuns_sec hwf hz levels, afterRuns_refCnt hwf hz levels, afterRuns_digitIdx hwf hz levels⟩

/-- Settles O47: each detector has sampled its own pressed levels from cleared flops. -/
theorem edgeDetectorClosedForm : Obligations.EdgeDetectorClosedForm := by
  intro levels s hwf hz
  obtain ⟨-, hM, hH, -⟩ := id hz
  have hbtnM := afterRuns_btnM levels s
  have hbtnH := afterRuns_btnH levels s
  rw [hM] at hbtnM
  rw [hH] at hbtnH
  refine ⟨_, runCycles_of_inv levels (hz.inv hwf), ⟨?_, ?_⟩, ⟨?_, ?_⟩⟩
  · exact hbtnM.trans (afterSamples_cleared _)
  · exact (congrArg pulse hbtnM).trans (pulse_afterSamples_cleared _)
  · exact hbtnH.trans (afterSamples_cleared _)
  · exact (congrArg pulse hbtnH).trans (pulse_afterSamples_cleared _)

/-- A run of one RUN cycle more records the wires of the state it starts in. -/
theorem runCycles_concat_of_inv (levels : List (Bool × Bool)) (l : Bool × Bool) {s : State} (hs : s.Inv) :
    ∃ t, runCycles (levels ++ [l]) s = .next t ∧ t.wires = cycleWires (afterRuns levels s) := by
  refine ⟨_, runCycles_of_inv _ hs, ?_⟩
  rw [afterRuns_concat, runStep_wires]

/-- Settles O48: the recorded tick is the wire of the state after the first n cycles. -/
theorem tickTrain : Obligations.TickTrain := by
  intro levels l s hwf hz
  obtain ⟨t, ht, hwires⟩ := runCycles_concat_of_inv levels l (hz.inv hwf)
  refine ⟨t, ht, ?_⟩
  have htick : t.wires.tick = tickWire (afterRuns levels s) := congrArg Wires.tick hwires
  rw [htick, tickWire_afterRuns hwf hz, decide_eq_true_iff]

/-- 45 R140: the pattern of a position below 6 is that power of two. -/
theorem onehot6_eq_two_pow {i : Index} (hi : i.toNat < 6) : onehot6 i = BitVec.ofNat 6 (2 ^ i.toNat) := by
  revert i
  decide

/-- Settles O49: the ports of the last cycle are `Out` of the state after the first n cycles, whose index has its closed
form. -/
theorem displayScansRoundRobin : Obligations.DisplayScansRoundRobin := by
  intro levels l s hwf hz
  have hs := hz.inv hwf
  obtain ⟨t, ht, hwires⟩ := runCycles_concat_of_inv levels l hs
  obtain ⟨-, -, -, hlt⟩ := (inRange_iff _).1 (afterRuns_inv levels hs).2
  have hidx := afterRuns_digitIdx hwf hz levels
  have hparams := afterRuns_params levels s
  have hcode : (afterRuns levels s).digitIdx = BitVec.ofNat 3 ((levels.length / s.params.refreshDiv) % 6) := by
    rw [← hidx, BitVec.ofNat_toNat, BitVec.setWidth_eq]
  have hcs : t.wires.csOut = csPort (afterRuns levels s) (onehot6 (afterRuns levels s).digitIdx) :=
    congrArg Wires.csOut hwires
  have hseg : t.wires.segOut = segPort (afterRuns levels s)
      (segTab (digitAt (bcdDigits (afterRuns levels s)) (afterRuns levels s).digitIdx)) :=
    congrArg Wires.segOut hwires
  refine ⟨_, t, runCycles_of_inv levels hs, ht, ?_, ?_⟩
  · rw [hcs, onehot6_eq_two_pow hlt, hidx, csPort, hparams]
  · rw [hseg, hcode, segPort, hparams]
    rfl

end Sys2Proof.Machine

namespace Sys2Proof.Machine

/-! ### Buttons and event words in a run: 70 R182, 30 R65, R73 -/

/-- 46 R152: a queued RESET word and the RUN words after it run from the zero state. -/
theorem run_reset_runWords (h m : Bool) (levels : List (Bool × Bool)) (rest : List Request) {s : State}
    (hwf : s.params.wf = true) (hq : s.inputs = cycWord true h m :: (runWords levels ++ rest)) :
    Host.Core.run Sys2Proof.core (levels.length + 1) s
      = .next { afterRuns levels (resetState s) with inputs := rest } :=
  (run_succ_of_next (step_of_reset_word hq)).trans (run_runWords levels rest (resetState_inv hwf))

/-- 42 R93: a press of M that is sampled from a cleared first stage gives M's pulse one cycle later. -/
theorem pulse_btnM_after_press {s : State} (hM : s.btnM.sync1 = false) (h : Bool) (l : Bool × Bool) :
    pulse (afterRuns [(h, pressedRaw s.params), l] s).btnM = true := by
  simp only [afterRuns_cons, afterRuns_nil, runStep_btnM, pressedLevel_pressedRaw, pulse_of_press hM]

/-- 42 R93: a press of H that is sampled from a cleared first stage gives H's pulse one cycle later. -/
theorem pulse_btnH_after_press {s : State} (hH : s.btnH.sync1 = false) (m : Bool) (l : Bool × Bool) :
    pulse (afterRuns [(pressedRaw s.params, m), l] s).btnH = true := by
  simp only [afterRuns_cons, afterRuns_nil, runStep_btnH, pressedLevel_pressedRaw, pulse_of_press hH]

/-- 43 R101: with no pulse a RUN cycle advances the time by one second at most. -/
theorem timeOfDay_runStep_le {s : State} (hs : s.TimeInv) (hM : pulse s.btnM = false) (hH : pulse s.btnH = false)
    (h m : Bool) : timeOfDay (runStep h m s) ≤ timeOfDay s + 1 := by
  have htick := Bool.toNat_le (tickWire s)
  rw [timeOfDay_runStep hs, hM, hH]
  exact (Nat.mod_le _ _).trans (Nat.add_le_add_left htick _)

section
variable {s : State} (hwf : s.params.wf = true) (hz : s.AtZero) (a b c : Bool × Bool)
include hwf hz

/-- 42 R93: no pulse comes in the first two cycles from the zero state, so the time is two seconds at most. -/
theorem timeOfDay_two_runs_le : timeOfDay (afterRuns [a, b] s) ≤ 2 := by
  have hs := hz.inv hwf
  have hstart : timeOfDay s = 0 := by
    obtain ⟨-, -, -, hsec, hmin, hhr, -⟩ := id hz
    exact (timeOfDay_eq_zero_iff s).2 ⟨hsec, hmin, hhr⟩
  obtain ⟨-, hM, hH, -⟩ := hz
  have hfirst : timeOfDay (runStep a.1 a.2 s) ≤ timeOfDay s + 1 :=
    timeOfDay_runStep_le hs.timeInv (by rw [hM]; rfl) (by rw [hH]; rfl) a.1 a.2
  have hsecond : timeOfDay (runStep b.1 b.2 (runStep a.1 a.2 s)) ≤ timeOfDay (runStep a.1 a.2 s) + 1 :=
    timeOfDay_runStep_le (runStep_inv hs a.1 a.2).timeInv
      (by rw [runStep_btnM, pulse_edgeNext, hM]; rfl) (by rw [runStep_btnH, pulse_edgeNext, hH]; rfl) b.1 b.2
  simp only [afterRuns_cons, afterRuns_nil]
  omega

/-- 43 R101: the third cycle adds its pulses and at most one second more; a day of at least two hours does not wrap. -/
theorem timeOfDay_third_run : ∃ x ≤ 3, timeOfDay (afterRuns [a, b, c] s)
    = x + 60 * (pulse (afterRuns [a, b] s).btnM).toNat + 3600 * (pulse (afterRuns [a, b] s).btnH).toNat := by
  have hinv := (afterRuns_inv [a, b] (hz.inv hwf)).timeInv
  have htwo := timeOfDay_two_runs_le hwf hz a b
  have hthird : timeOfDay (afterRuns [a, b, c] s) = _ := timeOfDay_runStep hinv c.1 c.2
  obtain ⟨hH, -⟩ := hinv.hourMod
  have htick := Bool.toNat_le (tickWire (afterRuns [a, b] s))
  have hbM := Bool.toNat_le (pulse (afterRuns [a, b] s).btnM)
  have hbH := Bool.toNat_le (pulse (afterRuns [a, b] s).btnH)
  refine ⟨_, Nat.add_le_add htwo htick, ?_⟩
  rw [hthird, Nat.mod_eq_of_lt (by omega)]

theorem min_hr_after_two_runs : (afterRuns [a, b] s).min = 0 ∧ (afterRuns [a, b] s).hr = 0 := by
  have htwo := timeOfDay_two_runs_le hwf hz a b
  rw [timeOfDay] at htwo
  rw [field_eq_zero_iff, field_eq_zero_iff]
  omega

/-- 43 R103: a minutes pulse in the third cycle leaves the minutes at 1, whatever the hours do. -/
theorem min_after_third_run (hM : pulse (afterRuns [a, b] s).btnM = true) : (afterRuns [a, b, c] s).min = 1 := by
  obtain ⟨x, hx, htime⟩ := timeOfDay_third_run hwf hz a b c
  obtain ⟨hsec, hmin, -⟩ := (afterRuns_inv [a, b, c] (hz.inv hwf)).timeInv.fields
  have hone : (afterRuns [a, b, c] s).min.toNat = 1 := by
    rw [timeOfDay, hM, Bool.toNat_true] at htime
    omega
  exact BitVec.eq_of_toNat_eq hone

/-- 43 R103: an hours pulse in the third cycle leaves the hours at 1, whatever the minutes do. -/
theorem hr_after_third_run (hH : pulse (afterRuns [a, b] s).btnH = true) : (afterRuns [a, b, c] s).hr = 1 := by
  obtain ⟨x, hx, htime⟩ := timeOfDay_third_run hwf hz a b c
  obtain ⟨hsec, hmin, -⟩ := (afterRuns_inv [a, b, c] (hz.inv hwf)).timeInv.fields
  have hbM := Bool.toNat_le (pulse (afterRuns [a, b] s).btnM)
  have hone : (afterRuns [a, b, c] s).hr.toNat = 1 := by
    rw [timeOfDay, hH, Bool.toNat_true] at htime
    omega
  exact BitVec.eq_of_toNat_eq hone

end

/-- Settles O50: the press sampled in the first RUN cycle after reset pulses in the third, which adds its minute or hour
to a time of day of a few seconds. -/
theorem buttonHeldThroughReset : Obligations.ButtonHeldThroughReset := by
  refine ⟨fun h₀ h₁ h₂ h₃ s hwf hq => ?_, fun m₀ m₁ m₂ m₃ s hwf hq => ?_⟩
  · have hpulse := pulse_btnM_after_press (s := resetState s) rfl h₁ (h₂, pressedRaw s.params)
    obtain ⟨hmin, -⟩ := min_hr_after_two_runs (s := resetState s) hwf (resetState_atZero s)
      (h₁, pressedRaw s.params) (h₂, pressedRaw s.params)
    have hmin' := min_after_third_run (s := resetState s) hwf (resetState_atZero s) _ _ (h₃, pressedRaw s.params)
      hpulse
    exact ⟨_, _, run_reset_runWords _ _ [(h₁, _), (h₂, _)] (runWords [(h₃, _)]) hwf hq, hpulse, hmin,
      run_reset_runWords _ _ [(h₁, _), (h₂, _), (h₃, _)] [] hwf hq, hmin'⟩
  · have hpulse := pulse_btnH_after_press (s := resetState s) rfl m₁ (pressedRaw s.params, m₂)
    obtain ⟨-, hhr⟩ := min_hr_after_two_runs (s := resetState s) hwf (resetState_atZero s)
      (pressedRaw s.params, m₁) (pressedRaw s.params, m₂)
    have hhr' := hr_after_third_run (s := resetState s) hwf (resetState_atZero s) _ _ (pressedRaw s.params, m₃)
      hpulse
    exact ⟨_, _, run_reset_runWords _ _ [(_, m₁), (_, m₂)] (runWords [(_, m₃)]) hwf hq, hpulse, hhr,
      run_reset_runWords _ _ [(_, m₁), (_, m₂), (_, m₃)] [] hwf hq, hhr'⟩

/-- 42 R93 on a tap: of the samples 1, 0, 0, …, from cleared flops, two and no other number give the pulse. -/
theorem pulse_afterSamples_tap (n : Nat) :
    pulse (afterSamples (true :: List.replicate n false) ⟨false, false, false⟩) = true ↔ n = 1 := by
  rw [pulse_afterSamples_cleared, List.reverse_cons, List.reverse_replicate]
  match n with
  | 0 => decide
  | 1 => decide
  | n + 2 => simp [List.replicate_succ]

/-- 42 R93 on a tap cut off after `n` cycles. -/
theorem pulse_afterSamples_take_tap {k n : Nat} (hn : n ≤ k + 1) :
    pulse (afterSamples ((true :: List.replicate k false).take n) ⟨false, false, false⟩) = true ↔ n = 2 := by
  cases n with
  | zero => exact iff_of_false Bool.false_ne_true (by decide)
  | succ n =>
    rw [List.take_succ_cons, List.take_replicate, Nat.min_eq_left (Nat.le_of_succ_le_succ hn), pulse_afterSamples_tap]
    omega

/-- 46 R152: the first `n` of the queued RUN words run. -/
theorem run_take_runWords (levels : List (Bool × Bool)) {n : Nat} (hn : n ≤ levels.length) {s : State} (hs : s.Inv) :
    Host.Core.run Sys2Proof.core n { s with inputs := runWords levels }
      = .next { afterRuns (levels.take n) s with inputs := runWords (levels.drop n) } := by
  have hrun := run_runWords (levels.take n) (runWords (levels.drop n)) hs
  have hqueue : runWords (levels.take n) ++ runWords (levels.drop n) = runWords levels := by
    rw [runWords, runWords, ← List.map_append, List.take_append_drop, runWords]
  rwa [List.length_take_of_le hn, hqueue] at hrun

/-- The raw levels of `TAP_M` and then released cycles (30 R73). -/
def tapMLevels (p : Params) (k : Nat) : List (Bool × Bool) :=
  (releasedLevel p, pressedRaw p) :: List.replicate (k + 1) (releasedLevel p, releasedLevel p)

/-- The raw levels of `TAP_H` and then released cycles (30 R73). -/
def tapHLevels (p : Params) (k : Nat) : List (Bool × Bool) :=
  (pressedRaw p, releasedLevel p) :: List.replicate (k + 1) (releasedLevel p, releasedLevel p)

theorem programWords_tapM_idle (p : Params) (k : Nat) :
    programWords p [.tapM, .idle k] = runWords (tapMLevels p k) := by
  simp [programWords, stmtWords, runWords, tapMLevels, List.replicate_succ]

theorem programWords_tapH_idle (p : Params) (k : Nat) :
    programWords p [.tapH, .idle k] = runWords (tapHLevels p k) := by
  simp [programWords, stmtWords, runWords, tapHLevels, List.replicate_succ]

/-- 30 R73: on either polarity a tap of M is sampled as pressed once. -/
theorem tapMLevels_pressed (p : Params) (k : Nat) :
    (tapMLevels p k).map (fun l => l.2 ^^ p.btnActiveLow) = true :: List.replicate (k + 1) false := by
  simp [tapMLevels, releasedLevel, pressedRaw]

/-- 30 R73: on either polarity a tap of H is sampled as pressed once. -/
theorem tapHLevels_pressed (p : Params) (k : Nat) :
    (tapHLevels p k).map (fun l => l.1 ^^ p.btnActiveLow) = true :: List.replicate (k + 1) false := by
  simp [tapHLevels, releasedLevel, pressedRaw]

/-- Settles O51: the program's words are RUN words whose pressed levels are one 1 and then 0. -/
theorem tapGivesOnePulse : Obligations.TapGivesOnePulse := by
  refine ⟨fun k n s hs hM hn => ?_, fun k n s hs hH hn => ?_⟩
  · have hlen : n ≤ (tapMLevels s.params k).length := by simpa [tapMLevels] using hn
    have hbtn := afterRuns_btnM ((tapMLevels s.params k).take n) s
    rw [List.map_take, tapMLevels_pressed, hM] at hbtn
    have hpulse := pulse_afterSamples_take_tap hn
    rw [← hbtn] at hpulse
    rw [State.load, programWords_tapM_idle]
    exact ⟨_, run_take_runWords _ hlen hs, hpulse⟩
  · have hlen : n ≤ (tapHLevels s.params k).length := by simpa [tapHLevels] using hn
    have hbtn := afterRuns_btnH ((tapHLevels s.params k).take n) s
    rw [List.map_take, tapHLevels_pressed, hH] at hbtn
    have hpulse := pulse_afterSamples_take_tap hn
    rw [← hbtn] at hpulse
    rw [State.load, programWords_tapH_idle]
    exact ⟨_, run_take_runWords _ hlen hs, hpulse⟩

/-- 30 R64: bit 0 of the event word is `tick`. -/
theorem evtWord_getLsbD_zero (s : State) : (evtWord s).getLsbD 0 = tickWire s := by
  unfold evtWord
  generalize pulse s.btnH = h, pulse s.btnM = m, tickWire s = t
  revert h m t
  decide

/-- 30 R64: an event word is its three bits. -/
theorem word3_getLsbD (w : BitVec 3) : word3 (w.getLsbD 2) (w.getLsbD 1) (w.getLsbD 0) = w := by
  revert w
  decide

/-- `k` released cycles, then one with H and M pressed as the two bits say, then one released cycle (30 R63). -/
def pressLevels (p : Params) (k : Nat) (h m : Bool) : List (Bool × Bool) :=
  List.replicate k (releasedLevel p, releasedLevel p)
    ++ [(h ^^ p.btnActiveLow, m ^^ p.btnActiveLow), (releasedLevel p, releasedLevel p)]

theorem pressLevels_pressedM (p : Params) (k : Nat) (h m : Bool) :
    (pressLevels p k h m).map (fun l => l.2 ^^ p.btnActiveLow) = List.replicate k false ++ [m, false] := by
  simp [pressLevels, releasedLevel]

theorem pressLevels_pressedH (p : Params) (k : Nat) (h m : Bool) :
    (pressLevels p k h m).map (fun l => l.1 ^^ p.btnActiveLow) = List.replicate k false ++ [h, false] := by
  simp [pressLevels, releasedLevel]

/-- 42 R93: a press one cycle back, after released samples, is a pulse. -/
theorem pulse_afterSamples_press (k : Nat) (b : Bool) :
    pulse (afterSamples (List.replicate k false ++ [b, false]) ⟨false, false, false⟩) = b := by
  rw [pulse_afterSamples_cleared]
  cases k with
  | zero => simp
  | succ k => simp

/-- 30 R65: after `pressLevels` from the zero state both pulses are the bits asked for, and the tick is that of cycle
k + 2. -/
theorem evtWord_after_press {s : State} (hwf : s.params.wf = true) (hz : s.AtZero) (k : Nat) (h m : Bool) :
    evtWord (afterRuns (pressLevels s.params k h m) s)
      = word3 h m (decide ((k + 2) % s.params.tickPeriod = s.params.tickPeriod - 1)) := by
  obtain ⟨-, hM, hH, -⟩ := id hz
  have hpulseM : pulse (afterRuns (pressLevels s.params k h m) s).btnM = m := by
    rw [afterRuns_btnM, hM, pressLevels_pressedM, pulse_afterSamples_press]
  have hpulseH : pulse (afterRuns (pressLevels s.params k h m) s).btnH = h := by
    rw [afterRuns_btnH, hH, pressLevels_pressedH, pulse_afterSamples_press]
  have hlen : (pressLevels s.params k h m).length = k + 2 := by simp [pressLevels]
  rw [evtWord, hpulseM, hpulseH, tickWire_afterRuns hwf hz, hlen]

/-- 41 R82: a tick comes at the cycle 3P-1, and with P of at least 2 none at the cycle 2P. -/
theorem exists_cycle_with_tick {P : Nat} (hP : 0 < P) {t : Bool} (ht : P = 1 → t = true) :
    ∃ k, decide ((k + 2) % P = P - 1) = t := by
  cases t with
  | true =>
    refine ⟨3 * P - 3, decide_eq_true ?_⟩
    have hcycle : 3 * P - 3 + 2 = P - 1 + P * 2 := by omega
    rw [hcycle, Nat.add_mul_mod_self_left, Nat.mod_eq_of_lt (by omega)]
  | false =>
    have hP2 : P ≠ 1 := fun h => Bool.noConfusion (ht h)
    refine ⟨2 * P - 2, decide_eq_false ?_⟩
    have hcycle : 2 * P - 2 + 2 = P * 2 := by omega
    rw [hcycle, Nat.mul_mod_right]
    omega

/-- Settles O54: with P = 1 the tick count is always the last; for a given word, wait for a cycle with its tick bit, and
press the buttons of its other two bits one cycle before. -/
theorem eventWordsThatOccur : Obligations.EventWordsThatOccur := by
  refine ⟨fun s hs hP => ?_, fun w s hwf hz hodd => ?_⟩
  · obtain ⟨htick, -⟩ := (inRange_iff s).1 hs.2
    rw [evtWord_getLsbD_zero, tickWire, decide_eq_true_iff]
    omega
  · obtain ⟨hP, -⟩ := (Params.wf_iff _).1 hwf
    obtain ⟨k, hk⟩ := exists_cycle_with_tick hP hodd
    refine ⟨_, _, runCycles_of_inv (pressLevels s.params k (w.getLsbD 2) (w.getLsbD 1)) (hz.inv hwf), ?_⟩
    refine (evtWord_after_press hwf hz k _ _).trans ?_
    rw [hk, word3_getLsbD]

end Sys2Proof.Machine
